-- ==== Sys2Proof/Word.lean ====
section
/-! DEFINITION. The plain words of OWPE: 32-bit registers, bytes and timestamps. -/

namespace Sys2Proof

/-- A 32-bit register, host word or surface word (R9). -/
abbrev Word := BitVec 32

/-- One byte of the payload (R28). -/
abbrev Byte := BitVec 8

/-- A pin number, 0 to 31 (R9, R94). -/
abbrev Pin := BitVec 5

/-- An edge timestamp: a monotonic-clock reading, seconds and nanoseconds (R12, R30). -/
structure Timestamp where
  sec  : BitVec 32
  nsec : BitVec 32
  deriving DecidableEq, Repr, Inhabited

/-- The instant (0, 0), reset value of every timestamp register (R42). -/
def Timestamp.zero : Timestamp := ⟨0#32, 0#32⟩

end Sys2Proof
end

