-- ==== Sys2Proof/Config.lean ====
section
/-! DEFINITION. What an instantiation of OWPE fixes (R6 to R9), and the free values of the model. -/

namespace Sys2Proof

/-- Capacity of the timestamp buffer, `MAX_EDGES` (R6). It is structural: the length of TS. -/
def Config.maxEdges : Nat := 42
/-- Leading edges that are not data, `HANDSHAKE_EDGES` (R6). -/
def Config.handshakeEdges : Nat := 2
/-- Bits of a frame, `DATA_BITS` (R6). -/
def Config.dataBits : Nat := 40
/-- Bytes of a payload, `PAYLOAD_BYTES` (R6). It is structural: the length of PAYLOAD. -/
def Config.payloadBytes : Nat := 5
/-- Words of the surface, `SURF_WORDS` (R9, R61). -/
def Config.surfWords : Nat := 1024
/-- Words of the host window, `HOST_WORDS` (R9, R21). -/
def Config.hostWords : Nat := 256

/-- OPEN: `TB_RES_NS` less one. The spec gives the parameter a range and no value (R7, D12), so this has no
body. Log entry 3. -/
opaque Config.tbResBelow : Fin 1000

/-- The granularity of an instantiation that does not say its own: somewhere in 1 to 1000 ns (R7; log
entry 3). -/
def Config.tbResOpen : Nat := Config.tbResBelow.val + 1

/-- The parameters of an instantiation with the spec's defaults (R6, R7, R8). The surface indices and
codes have defaults from general knowledge (PRESUMED, log entry 2); no rule depends on a default. -/
structure Params where
  /-- `THRESH_US` (R6). -/
  threshUs : Nat := 100
  /-- `T_SETTLE_NS` (R7). -/
  tSettleNs : Nat := 10000
  /-- `T_HOLD_LOW_NS` (R7). -/
  tHoldLowNs : Nat := 5000000
  /-- `T_POLL_NS` (R7). -/
  tPollNs : Nat := 0
  /-- `TIMEOUT_RESET_US` (R7). -/
  timeoutResetUs : Word := 2000000#32
  /-- `TB_RES_NS`, open: the spec gives no default (R7; log entry 3). -/
  tbResNs : Nat := Config.tbResOpen
  /-- `IDX_FSEL`, the first of four function-select registers (R8). -/
  idxFsel : Nat := 0
  /-- `IDX_SET` (R8). -/
  idxSet : Nat := 7
  /-- `IDX_CLR` (R8). -/
  idxClr : Nat := 10
  /-- `IDX_LEV` (R8). -/
  idxLev : Nat := 13
  /-- `IDX_EDS` (R8). -/
  idxEds : Nat := 16
  /-- `IDX_PUD` (R8). -/
  idxPud : Nat := 37
  /-- `IDX_PUDCLK` (R8). -/
  idxPudclk : Nat := 38
  /-- `FSEL_INPUT` (R8). -/
  fselInput : BitVec 3 := 0b000#3
  /-- `FSEL_OUTPUT` (R8). -/
  fselOutput : BitVec 3 := 0b001#3
  /-- `PUD_UP` (R8). -/
  pudUp : Word := 0b10#32
  /-- `PUD_OFF` (R8). -/
  pudOff : Word := 0#32
  deriving DecidableEq, Repr

/-- Every timing parameter lies in its legal range (R7); that of `TIMEOUT_RESET_US` is all of its 32 bits. -/
def Params.timesLegal (c : Params) : Bool :=
  decide (1000 ≤ c.tSettleNs) && decide (c.tSettleNs ≤ 10000)
    && decide (1000000 ≤ c.tHoldLowNs) && decide (c.tHoldLowNs ≤ 20000000)
    && decide (c.tPollNs ≤ 10000)
    && decide (1 ≤ c.tbResNs) && decide (c.tbResNs ≤ 1000)

/-- Every surface index the engine can generate is one of the 1024 words (R69). -/
def Params.indicesLegal (c : Params) : Bool :=
  decide (c.idxFsel + 3 < Config.surfWords) && decide (c.idxSet < Config.surfWords)
    && decide (c.idxClr < Config.surfWords) && decide (c.idxLev < Config.surfWords)
    && decide (c.idxEds < Config.surfWords) && decide (c.idxPud < Config.surfWords)
    && decide (c.idxPudclk < Config.surfWords)

/-- The ten surface registers OWPE uses. -/
def Params.indices (c : Params) : List Nat :=
  [c.idxFsel, c.idxFsel + 1, c.idxFsel + 2, c.idxFsel + 3, c.idxSet, c.idxClr, c.idxLev, c.idxEds,
    c.idxPud, c.idxPudclk]

/-- No two register roles share an index: the seven roles are seven registers (R62). -/
def Params.indicesDistinct (c : Params) : Bool := decide c.indices.Nodup

/-- An instantiation inside the ranges of R7 and R69. -/
def Params.legal (c : Params) : Bool := c.timesLegal && c.indicesLegal

/-- FREE VALUE: what the SURFACE answers to a read that no script and no surface model answers
(R70, U8: any value). Log entry 5. -/
opaque Config.freeRead : Nat → Word

/-- FREE VALUE: what the TIMEBASE answers when no script answers (R13, U9: any value). Log entry 6. -/
opaque Config.freeNow : Nat → Timestamp

/-- FREE VALUE: the pull configuration of a pin whose latch sequence was cut short (R121, R242, U1).
Log entry 12. -/
opaque Config.freePull : Nat → Word

end Sys2Proof
end

