-- ==== Sys2Proof/Syntax.lean ====
section
/-! DEFINITION. The nine commands of OWPE, one constructor per row of spec/opcode_table.json (R93). -/

namespace Sys2Proof

/-- The direction operand of SETDIR (R91). -/
inductive Dir where
  | input
  | output
  deriving DecidableEq, Repr

/-- The level operand of SETLVL (R91). -/
inductive Level where
  | low
  | high
  deriving DecidableEq, Repr

/-- The nine opcodes without their operands; the `op` of the sequencer position (R38, R93). -/
inductive Op where
  | pullup
  | setdir
  | setlvl
  | rdlvl
  | init
  | capt
  | dec
  | fin
  | acq
  deriving DecidableEq, Repr

/-- A command with its operands (R93, R94, R106). -/
inductive Instr where
  /-- `PULLUP p`, the source's `configurePullUp(pin)` (R121). -/
  | pullup (p : Pin)
  /-- `SETDIR p, OUT|IN`, the source's `setDirection(pin, OUTPUT|INPUT)` (R122). -/
  | setdir (p : Pin) (d : Dir)
  /-- `SETLVL p, HIGH|LOW`, the source's `setLevel(pin, HIGH|LOW)` (R123). -/
  | setlvl (p : Pin) (l : Level)
  /-- `RDLVL p`, the source's `readLevel(pin)` (R124). -/
  | rdlvl (p : Pin)
  /-- `INIT p`, the source's `initiate(pin)` (R140). -/
  | init (p : Pin)
  /-- `CAPT p, n`, the source's `captureEdges(pin, maxEdges, deadline)` (R150). -/
  | capt (p : Pin) (n : BitVec 6)
  /-- `DEC`, the source's `decode(edges)` (R170). -/
  | dec
  /-- `FIN`, the source's `finalize(payload)` (R185). -/
  | fin
  /-- `ACQ p`, one whole acquisition (R200). -/
  | acq (p : Pin)
  deriving DecidableEq, Repr

end Sys2Proof
end

