-- ==== Sys2Proof/WellFormed.lean ====
section
/-! DEFINITION. Which instructions are well formed: the one operand with an illegal value (R95). -/

namespace Sys2Proof

/-- An instruction whose operands the encoding admits. The PIN field has no illegal value, the one-bit
operands have none, and MAXEDGES is at most the capacity of the buffer (R95 clause (c)). -/
def Instr.wellFormed : Instr → Bool
  | .pullup _ => true
  | .setdir _ _ => true
  | .setlvl _ _ => true
  | .rdlvl _ => true
  | .init _ => true
  | .capt _ n => decide (n.toNat ≤ Config.maxEdges)
  | .dec => true
  | .fin => true
  | .acq _ => true

end Sys2Proof
end

