-- ==== Sys2Proof/Decode.lean ====
section
/-! DEFINITION. The command word (R90 to R95): decoding, total on every word and rejecting by name, and
encoding. -/

namespace Sys2Proof

/-- Why a word is no legal command (R95, R98). All reasons are treated alike by the machine. -/
inductive Illegal where
  /-- OPC is 0x0 or 0xA to 0xF. -/
  | reservedOpcode
  /-- A bit the format does not use is 1. -/
  | nonzeroField
  /-- CAPT with MAXEDGES 43 to 63. -/
  | tooManyEdges
  deriving DecidableEq, Repr

/-- The four command formats (R92). -/
inductive Format where
  | N
  | P
  | PA
  | PM
  deriving DecidableEq, Repr

/-- The must-be-zero mask of a format (R92). -/
def Format.zmask : Format → Word
  | .N => 0xFFFFFFF0#32
  | .P => 0xFFFFE0F0#32
  | .PA => 0xFFFEE0F0#32
  | .PM => 0xC0FFE0F0#32

/-- The format of each opcode (R93). -/
def Op.format : Op → Format
  | .pullup => .P
  | .setdir => .PA
  | .setlvl => .PA
  | .rdlvl => .P
  | .init => .P
  | .capt => .PM
  | .dec => .N
  | .fin => .N
  | .acq => .P

/-- The opcode number (R93). -/
def Op.code : Op → BitVec 4
  | .pullup => 0x1#4
  | .setdir => 0x2#4
  | .setlvl => 0x3#4
  | .rdlvl => 0x4#4
  | .init => 0x5#4
  | .capt => 0x6#4
  | .dec => 0x7#4
  | .fin => 0x8#4
  | .acq => 0x9#4

/-- The opcode a number stands for; 0x0 and 0xA to 0xF are reserved (R93). -/
def Op.ofCode (c : BitVec 4) : Option Op :=
  match c.toNat with
  | 1 => some .pullup
  | 2 => some .setdir
  | 3 => some .setlvl
  | 4 => some .rdlvl
  | 5 => some .init
  | 6 => some .capt
  | 7 => some .dec
  | 8 => some .fin
  | 9 => some .acq
  | _ => none

/-- `touches_surface` of R96: every command but DEC and FIN. -/
def Op.touchesSurface : Op → Bool
  | .pullup => true
  | .setdir => true
  | .setlvl => true
  | .rdlvl => true
  | .init => true
  | .capt => true
  | .dec => false
  | .fin => false
  | .acq => true

/-- OPC, bits 3:0 (R91). -/
def opcField (w : Word) : BitVec 4 := w.extractLsb' 0 4
/-- PIN, bits 12:8 (R91). -/
def pinField (w : Word) : Pin := w.extractLsb' 8 5
/-- ARG, bit 16 (R91). -/
def argField (w : Word) : Bool := w.getLsbD 16
/-- MAXEDGES, bits 29:24 (R91). -/
def maxEdgesField (w : Word) : BitVec 6 := w.extractLsb' 24 6

/-- ARG 1 is OUTPUT, 0 is INPUT (R91). -/
def Dir.ofBit (b : Bool) : Dir := if b then .output else .input
/-- ARG 1 is HIGH, 0 is LOW (R91). -/
def Level.ofBit (b : Bool) : Level := if b then .high else .low
/-- The ARG bit of a direction (R91). -/
def Dir.bit : Dir → Bool
  | .input => false
  | .output => true
/-- The ARG bit of a level (R91). -/
def Level.bit : Level → Bool
  | .low => false
  | .high => true

/-- The command of an opcode with its operand fields, used as they are (R94). -/
def Op.instr (op : Op) (pin : Pin) (arg : Bool) (maxEdges : BitVec 6) : Instr :=
  match op with
  | .pullup => .pullup pin
  | .setdir => .setdir pin (Dir.ofBit arg)
  | .setlvl => .setlvl pin (Level.ofBit arg)
  | .rdlvl => .rdlvl pin
  | .init => .init pin
  | .capt => .capt pin maxEdges
  | .dec => .dec
  | .fin => .fin
  | .acq => .acq pin

/-- The command a word stands for, or the reason it is illegal (R95, R98, R99). -/
def decode (w : Word) : Except Illegal Instr :=
  match Op.ofCode (opcField w) with
  | none => .error .reservedOpcode
  | some op =>
    if w &&& op.format.zmask ≠ 0#32 then .error .nonzeroField
    else if op = .capt ∧ Config.maxEdges < (maxEdgesField w).toNat then .error .tooManyEdges
    else .ok (op.instr (pinField w) (argField w) (maxEdgesField w))

/-- The opcode of a command. -/
def Instr.op : Instr → Op
  | .pullup _ => .pullup
  | .setdir _ _ => .setdir
  | .setlvl _ _ => .setlvl
  | .rdlvl _ => .rdlvl
  | .init _ => .init
  | .capt _ _ => .capt
  | .dec => .dec
  | .fin => .fin
  | .acq _ => .acq

/-- The command word, as R106 writes it: the opcode and the operands shifted to their fields. -/
def encode : Instr → Word
  | .pullup p => 0x1#32 ||| p.setWidth 32 <<< 8
  | .setdir p d => 0x2#32 ||| p.setWidth 32 <<< 8 ||| (BitVec.ofBool d.bit).setWidth 32 <<< 16
  | .setlvl p l => 0x3#32 ||| p.setWidth 32 <<< 8 ||| (BitVec.ofBool l.bit).setWidth 32 <<< 16
  | .rdlvl p => 0x4#32 ||| p.setWidth 32 <<< 8
  | .init p => 0x5#32 ||| p.setWidth 32 <<< 8
  | .capt p n => 0x6#32 ||| p.setWidth 32 <<< 8 ||| n.setWidth 32 <<< 24
  | .dec => 0x7#32
  | .fin => 0x8#32
  | .acq p => 0x9#32 ||| p.setWidth 32 <<< 8

/-- The command word in the opcode table's numbering: one 32-bit word, bit 0 its least significant;
the bits at `nbits` and above are 0. -/
def tableWord (nbits w : Nat) : Word := BitVec.ofNat 32 (w % 2 ^ nbits)

/-- What the decoder reads from a word numbered as spec/opcode_table.json numbers it. -/
def decodeTableWord (nbits w : Nat) : Option Instr :=
  match decode (tableWord nbits w) with
  | .ok i => some i
  | .error _ => none

end Sys2Proof
end

