-- ==== Sys2Proof/Machine/State.lean ====
section
/-! DEFINITION. All the state of OWPE (R20), the environment it meets (R5, R39, R41), why a step can stop,
and the machine right after reset (R42). Plain data. -/

namespace Sys2Proof.Machine

/-- The error codes of STATUS.ERR (R210). Codes 7 to 15 are never written, so they have no constructor. -/
inductive ErrCode where
  /-- 0: completed, running, or nothing issued. -/
  | none
  /-- 1: the surface is not available (R212). -/
  | registerMapFailure
  /-- 2: fewer edges than asked when the deadline test fails (R154). -/
  | captureTimeout
  /-- 3: DEC with fewer than 42 edges (R174). -/
  | insufficientEdges
  /-- 4: the checksum byte differs (R186). -/
  | checksumMismatch
  /-- 5: the word is no legal command (R213). -/
  | illegalCommand
  /-- 6: FIN with PVALID = 0 (R190). -/
  | noPayload
  deriving DecidableEq, Repr

/-- SEQ, the sequencer position (R38): `idle`, or the command in flight with the number `k` of its next
micro-step. `sub` is the model's own: how far a micro-step with several observations or accesses has
come (a `Wait` that has taken its start time, the lines 6a, 6b, 6c of the capture body; log entry 4). -/
inductive Seq where
  | idle
  | run (op : Op) (k sub : Nat)
  deriving DecidableEq, Repr

/-- One event of the history (R63, R64, R79). -/
inductive Event where
  /-- One read of surface register `idx`, answered `v` (R63). -/
  | read (idx : Nat) (v : Word)
  /-- One full-word write of `v` to surface register `idx` (R64). -/
  | write (idx : Nat) (v : Word)
  /-- One observation of the timebase (R13). -/
  | now (t : Timestamp)
  deriving DecidableEq, Repr

/-- What an agent other than the ENGINE does next, or that the turn is the ENGINE's (R5, R39). -/
inductive Move where
  /-- The ENGINE's turn. -/
  | engine
  /-- `HostRead(off)` (R66). -/
  | read (off : BitVec 8)
  /-- `HostWrite(off, v)` (R67). -/
  | write (off : BitVec 8) (v : Word)
  /-- `POLL`: read STATUS until BUSY = 0 (R106). -/
  | poll
  /-- The reset event (R240). -/
  | reset
  /-- The SURFACE sets event-detect flags (R41 (c), R71). -/
  | flags (v : Word)
  /-- The level register changes to `v` (R71). -/
  | line (v : Word)
  /-- Another bus master writes `v` to surface register `idx` (R5 (c), R75, R247; log entry 13). -/
  | master (idx : Nat) (v : Word)
  deriving DecidableEq, Repr

/-- The part of the environment's state that OWPE's writes change or its reads show (R41, R71): OWPE
holds no copy of it. It is the SURFACE agent's (log entry 11). -/
structure Surface where
  /-- The four function-select registers of pins 0 to 31 (R71). -/
  fsel : Vector Word 4
  /-- The output latch of the pins (R41 (b), R71). -/
  latch : Word
  /-- The level register (R71). -/
  line : Word
  /-- The event-detect flags (R41 (c), R71). -/
  eds : Word
  /-- The pull-control register (R71). -/
  pud : Word
  /-- The pull-clock register (R71); its bits act when they are written (R72). -/
  pudclk : Word
  /-- The control code latched into each pin (R41 (a), R71). -/
  pull : Vector Word 32
  deriving DecidableEq, Repr

/-- The inputs of the machine that are no state of OWPE (R39), and what the environment will do. -/
structure Env where
  /-- `surface_ok`, a constant of the session (R39, R212). -/
  surfaceOk : Bool
  /-- A surface access does not complete (U12; log entry 14). -/
  portHangs : Bool
  /-- Which SURFACE of R41 answers an unscripted read: true, a bare oracle (any value, R70, U8); false,
  a surface model with the behaviour of R71. -/
  bareOracle : Bool
  /-- What the agents do next, first first. Where it is empty the ENGINE moves. -/
  script : List Move
  /-- The SURFACE's answers to the next reads, first first (R63, R70). -/
  reads : List Word
  /-- The TIMEBASE's answers to the next observations, first first (R13). -/
  times : List Timestamp
  /-- How many free read answers have been used. -/
  freeReads : Nat
  /-- How many free observations have been used. -/
  freeNows : Nat
  /-- How many free pull configurations have been used. -/
  freePulls : Nat
  deriving DecidableEq, Repr

/-- The machine. The fields from `cmd` to `seq` are all state of OWPE (R20); BUSY is 1 exactly while SEQ
is not `idle` (R24) and is read off `seq`. The last five are the instantiation's parameters, the
environment, and the histories the model keeps (R79, R66). -/
structure State where
  /-- CMD: the last accepted command word (R22). -/
  cmd : Word
  /-- STATUS.DONE (R24). -/
  done : Bool
  /-- STATUS.FATAL (R25). -/
  fatal : Bool
  /-- STATUS.REJ (R25). -/
  rej : Bool
  /-- STATUS.TRUNC (R32). -/
  trunc : Bool
  /-- STATUS.PVALID (R33). -/
  pvalid : Bool
  /-- STATUS.RVALID (R33). -/
  rvalid : Bool
  /-- STATUS.LEVEL (R34). -/
  level : Bool
  /-- STATUS.ERR (R35). -/
  err : ErrCode
  /-- STATUS.EDGECNT (R31). -/
  edgecnt : BitVec 6
  /-- CONFIG.STRATEGY: false polling, true event-flag (R26). -/
  strategy : Bool
  /-- CONFIG.SIGNMODE: false the sign bit, true the reference behaviour (R26). -/
  signmode : Bool
  /-- TIMEOUT in microseconds (R27). -/
  timeout : Word
  /-- PAYLOAD[0..4] (R28). -/
  payload : Vector Byte 5
  /-- RESULT.HUM (R29). -/
  hum : BitVec 16
  /-- RESULT.TMAG (R29). -/
  tmag : BitVec 15
  /-- RESULT.NEG (R29). -/
  neg : Bool
  /-- TS[0..41] (R30). -/
  ts : Vector Timestamp 42
  /-- Latched operand OPC (R36). -/
  opc : BitVec 4
  /-- Latched operand PINL (R36). -/
  pinl : Pin
  /-- Latched operand ARGL (R36). -/
  argl : Bool
  /-- Latched operand MAXE (R36). -/
  maxe : BitVec 6
  /-- PREV, the previous level sample (R37). -/
  prev : Bool
  /-- T0, the capture loop's entry time (R37). -/
  t0 : Timestamp
  /-- TW, the start of the `Wait` in progress (R37). -/
  tw : Timestamp
  /-- TMP, the word read by the last `RegRead` (R37). -/
  tmp : Word
  /-- SEQ, the sequencer position (R38). -/
  seq : Seq
  /-- The parameters of the instantiation; no step changes them (R40). -/
  cfg : Params
  /-- The environment (R39). -/
  env : Env
  /-- The SURFACE agent's state (R41). -/
  surf : Surface
  /-- The events so far, oldest first (R79). -/
  trace : List Event
  /-- The answers of the host's reads so far, with their offsets, oldest first (R66). -/
  seen : List (BitVec 8 × Word)
  deriving DecidableEq, Repr

/-- Why the machine stops. Every one is SAFE: no state with the invariant of Sys2Proof/Safety.lean
reaches it. -/
inductive Fault where
  /-- Raised by a meaning when SEQ holds a micro-step number the command does not have (R38); safe. -/
  | noSuchMicroStep (op : Op) (k : Nat)
  /-- Raised by CAPT and ACQ when an edge would be recorded beyond TS[41] (R30, R31); safe. -/
  | noSuchEntry (i : Nat)
  /-- Raised by a surface access when a parameter lies outside the 1024 words of the surface (R61, R69);
  safe. -/
  | noSuchRegister (idx : Nat)
  deriving DecidableEq, Repr

/-- Why an instruction has no meaning. -/
inductive Refusal where
  /-- Raised by `exec` alone, for an instruction of the table that has no meaning yet; safe. No arm of
  this model answers with it. -/
  | notModelled (mnemonic : String)
  deriving DecidableEq, Repr

/-- The surface before anything has been written. R241 leaves it open ("whatever they were"); zero is
the model's choice (DESIGN CHOICE, log entry 11). -/
def Surface.reset : Surface where
  fsel := Vector.replicate 4 0#32
  latch := 0#32
  line := 0#32
  eds := 0#32
  pud := 0#32
  pudclk := 0#32
  pull := Vector.replicate 32 0#32

/-- The environment at reset: the surface is reachable, nothing is scripted, and every answer is a free
value (DESIGN CHOICE, log entry 10). -/
def Env.reset : Env where
  surfaceOk := true
  portHangs := false
  bareOracle := true
  script := []
  reads := []
  times := []
  freeReads := 0
  freeNows := 0
  freePulls := 0

/-- The machine right after reset: every field at the value of R42. -/
def State.reset : State where
  cmd := 0#32
  done := false
  fatal := false
  rej := false
  trunc := false
  pvalid := false
  rvalid := false
  level := false
  err := .none
  edgecnt := 0#6
  strategy := false
  signmode := false
  timeout := 2000000#32
  payload := Vector.replicate 5 0#8
  hum := 0#16
  tmag := 0#15
  neg := false
  ts := Vector.replicate 42 Timestamp.zero
  opc := 0#4
  pinl := 0#5
  argl := false
  maxe := 0#6
  prev := false
  t0 := Timestamp.zero
  tw := Timestamp.zero
  tmp := 0#32
  seq := .idle
  cfg := {}
  env := Env.reset
  surf := Surface.reset
  trace := []
  seen := []

end Sys2Proof.Machine
end

