-- ==== Sys2Proof/Machine/Flags.lean ====
section
/-! DEFINITION. STATUS and the other host words (R22 to R30), the flags every command sets at its end
(R215, R216), and the clearing of discarded data (R33). -/

namespace Sys2Proof.Machine

/-- BUSY is 1 exactly while SEQ is not `idle` (R24). -/
def State.busy (s : State) : Bool :=
  match s.seq with
  | .idle => false
  | .run _ _ _ => true

/-- The number of an error code (R210). -/
def ErrCode.code : ErrCode → BitVec 4
  | .none => 0#4
  | .registerMapFailure => 1#4
  | .captureTimeout => 2#4
  | .insufficientEdges => 3#4
  | .checksumMismatch => 4#4
  | .illegalCommand => 5#4
  | .noPayload => 6#4

/-- A flag at a bit of a host word. -/
def flagAt (b : Bool) (i : Nat) : Word := (BitVec.ofBool b).setWidth 32 <<< i

/-- STATUS as the host reads it (R23). -/
def State.statusWord (s : State) : Word :=
  flagAt s.busy 0 ||| flagAt s.done 1 ||| flagAt s.fatal 2 ||| flagAt s.rej 3 ||| flagAt s.trunc 4
    ||| flagAt s.pvalid 5 ||| flagAt s.rvalid 6 ||| flagAt s.level 7
    ||| s.err.code.setWidth 32 <<< 8 ||| s.edgecnt.setWidth 32 <<< 16

/-- CONFIG as the host reads it (R26). -/
def State.configWord (s : State) : Word := flagAt s.strategy 0 ||| flagAt s.signmode 1

/-- PAYLOAD0: bytes 3, 2, 1, 0 with byte 0 in bits 7:0 (R28). -/
def State.payload0Word (s : State) : Word :=
  s.payload[3] ++ s.payload[2] ++ s.payload[1] ++ s.payload[0]

/-- PAYLOAD1: byte 4 in bits 7:0 (R28). -/
def State.payload1Word (s : State) : Word := s.payload[4].setWidth 32

/-- RESULT: HUM in 15:0, TMAG in 30:16, NEG in bit 31 (R29). -/
def State.resultWord (s : State) : Word := BitVec.ofBool s.neg ++ s.tmag ++ s.hum

/-- The whole of PAYLOAD at 0. -/
def zeroPayload : Vector Byte 5 := Vector.replicate 5 0#8

/-- PVALID and PAYLOAD cleared together (R33). -/
def State.clearPayload (s : State) : State := { s with pvalid := false, payload := zeroPayload }

/-- RVALID and RESULT cleared together (R33). -/
def State.clearResult (s : State) : State :=
  { s with rvalid := false, hum := 0#16, tmag := 0#15, neg := false }

/-- `complete`: the command in flight ends without error (R215). -/
def State.complete (s : State) : State := { s with seq := .idle, done := true }

/-- `raise E`: the command in flight fails; the one code is all a failure saves (R216). -/
def State.raiseErr (e : ErrCode) (s : State) : State :=
  { s with err := e, seq := .idle, done := true }

end Sys2Proof.Machine
end

