-- ==== Sys2Proof/Machine/Operands.lean ====
section
/-! DEFINITION. What the commands compute from their operands (R122, R123, R140, R171, R172): surface
indices, one-hot words, the function-select field, durations. -/

namespace Sys2Proof.Machine

/-- The one-hot word of a pin, `1 << p` (R121, R123, R152). -/
def oneHot (p : Pin) : Word := 1#32 <<< p.toNat

/-- The function-select register of a pin, `IDX_FSEL + p div 10` (R122). -/
def fselIndex (c : Params) (p : Pin) : Nat := c.idxFsel + p.toNat / 10

/-- Where the 3-bit field of a pin starts, `3 * (p mod 10)` (R122). -/
def fselShift (p : Pin) : Nat := 3 * (p.toNat % 10)

/-- The mask of a pin's 3-bit field, `0b111 << sh` (R122). -/
def fselMask (p : Pin) : Word := 0b111#32 <<< fselShift p

/-- The function-select word with exactly one pin's field replaced,
`(TMP & ~(0b111 << sh)) | (code << sh)` (R122). -/
def fselInsert (old : Word) (p : Pin) (code : BitVec 3) : Word :=
  (old &&& ~~~(fselMask p)) ||| (code.setWidth 32 <<< fselShift p)

/-- The function code of a direction (R122). -/
def dirCode (c : Params) : Dir → BitVec 3
  | .input => c.fselInput
  | .output => c.fselOutput

/-- Bit `p` of a level or event-detect word, `TMP[p]` (R124, R151, R152). -/
def pinBit (w : Word) (p : Pin) : Bool := w.getLsbD p.toNat

/-- `elapsed_ns(a, b)`, a mathematical integer (R12). -/
def elapsedNs (a b : Timestamp) : Int :=
  ((b.sec.toNat : Int) - (a.sec.toNat : Int)) * 1000000000
    + ((b.nsec.toNat : Int) - (a.nsec.toNat : Int))

/-- The deadline of the capture loop in nanoseconds, `TIMEOUT * 1000` (R150). -/
def deadlineNs (timeout : Word) : Int := (timeout.toNat : Int) * 1000

end Sys2Proof.Machine
end

