-- ==== Sys2Proof/Machine/Surface.lean ====
section
/-! DEFINITION. The SURFACE agent: what OWPE's writes do to the GPIO controller and what a surface model
answers (R41, R71). OWPE observes none of it but through read answers (R5). -/

namespace Sys2Proof.Machine

/-- Each pin whose bit of the written pull-clock word is 1 latches the control code, each time such a word
is written (R71 last row, R72; DEDUCED: the code that stands there at that write, log entry 18). -/
def latchPull (code clock : Word) (pull : Vector Word 32) : Vector Word 32 :=
  Vector.ofFn fun i => if clock.getLsbD i.val then code else pull[i]

/-- The effect of one full-word write on the controller (R71). A write to any other index changes
nothing that this state holds. -/
def Surface.absorb (c : Params) (idx : Nat) (v : Word) (g : Surface) : Surface :=
  if c.idxFsel ≤ idx ∧ idx < c.idxFsel + 4 then
    { g with fsel := g.fsel.setIfInBounds (idx - c.idxFsel) v }
  else if idx = c.idxSet then { g with latch := g.latch ||| v }
  else if idx = c.idxClr then { g with latch := g.latch &&& ~~~v }
  else if idx = c.idxEds then { g with eds := g.eds &&& ~~~v }
  else if idx = c.idxPud then { g with pud := v }
  else if idx = c.idxPudclk then
    { g with pudclk := v, pull := latchPull g.pud v g.pull }
  else g

/-- What a surface model with the behaviour of R71 answers: the function-select, level and event-detect
registers. R71 says nothing of reading the others. -/
def Surface.answer (c : Params) (idx : Nat) (g : Surface) : Option Word :=
  if c.idxFsel ≤ idx ∧ idx < c.idxFsel + 4 then g.fsel[idx - c.idxFsel]?
  else if idx = c.idxLev then some g.line
  else if idx = c.idxEds then some g.eds
  else none

/-- The 3-bit function code of a pin (R71, first row). -/
def Surface.code (g : Surface) (p : Pin) : BitVec 3 :=
  (g.fsel[p.toNat / 10]?.getD 0#32).extractLsb' (fselShift p) 3

end Sys2Proof.Machine
end

