-- ==== Sys2Proof/Machine/Ops.lean ====
section
/-! DEFINITION. The operations every command is made of: moving SEQ, observing the timebase, the two port
accesses, `Wait`, accepting and rejecting a command, running a micro-step, the host's accesses, reset, other
masters. -/

namespace Sys2Proof.Machine

/-- How one step answers. -/
abbrev Outcome := Host.Outcome State Fault Refusal

/-! ### The sequencer position (R38) -/

/-- The model's sub-position inside the micro-step (log entry 4). -/
def State.sub (s : State) : Nat :=
  match s.seq with
  | .idle => 0
  | .run _ _ b => b

/-- SEQ at micro-step `k` of the command in flight. -/
def Seq.goto (k : Nat) : Seq → Seq
  | .idle => .idle
  | .run op _ _ => .run op k 0

/-- SEQ at the next micro-step. -/
def Seq.advance : Seq → Seq
  | .idle => .idle
  | .run op k _ => .run op (k + 1) 0

/-- SEQ further inside its micro-step. -/
def Seq.within (b : Nat) : Seq → Seq
  | .idle => .idle
  | .run op k _ => .run op k b

/-- Go to micro-step `k` of the command in flight. -/
def State.goto (k : Nat) (s : State) : State := { s with seq := s.seq.goto k }

/-- Go to the next micro-step. -/
def State.advance (s : State) : State := { s with seq := s.seq.advance }

/-- Go on inside the micro-step. -/
def State.within (b : Nat) (s : State) : State := { s with seq := s.seq.within b }

/-- SEQ at a micro-step the command does not have: reached from no state with the invariant. -/
def stray (s : State) : Outcome :=
  match s.seq with
  | .idle => .next s
  | .run op k _ => .fault (.noSuchMicroStep op k)

/-! ### The timebase (R13, R14) -/

/-- The TIMEBASE's answer to `Now()`: the next scripted one, else a free value (R13, U9). -/
def State.nowAnswer (s : State) : Timestamp :=
  match s.env.times with
  | t :: _ => t
  | [] => Config.freeNow s.env.freeNows

/-- The environment after an observation: the scripted answer is used up, or a free value is. -/
def State.envAfterNow (s : State) : Env :=
  match s.env.times with
  | _ :: rest => { s.env with times := rest }
  | [] => { s.env with freeNows := s.env.freeNows + 1 }

/-- The state after one observation of the timebase: the answer is used up and recorded (R13, R79). -/
def State.observed (s : State) : State :=
  { s with env := s.envAfterNow, trace := s.trace ++ [.now s.nowAnswer] }

/-- One ENGINE step of `Wait(D)` (R14): the first takes the start time into TW, each later one observes
once and ends the wait when at least `D` has elapsed (DEDUCED for `D = 0`, log entry 15). -/
def wait (d : Nat) (s : State) : Outcome :=
  match s.sub with
  | 0 => .next ({ s.observed with tw := s.nowAnswer }.within 1)
  | _ + 1 =>
    if (d : Int) ≤ elapsedNs s.tw s.nowAnswer then .next s.observed.advance else .next s.observed

/-! ### The port (R63, R64) -/

/-- The SURFACE's answer to a read (R63, R70): the next scripted one; else, from a surface model, the
register's content (R71); else a free value (U8). -/
def State.readAnswer (idx : Nat) (s : State) : Word :=
  match s.env.reads with
  | v :: _ => v
  | [] =>
    if s.env.bareOracle then Config.freeRead s.env.freeReads
    else (s.surf.answer s.cfg idx).getD (Config.freeRead s.env.freeReads)

/-- The environment after a read: the scripted answer is used up, or a free value is. -/
def State.envAfterRead (s : State) : Env :=
  match s.env.reads with
  | _ :: rest => { s.env with reads := rest }
  | [] => { s.env with freeReads := s.env.freeReads + 1 }

/-- `RegRead(idx)` (R63): one read, its answer in TMP; then SEQ moves by `move`. While the port hangs the
micro-step does not end (U12). -/
def regRead (idx : Nat) (move : State → State) (s : State) : Outcome :=
  if idx < Config.surfWords then
    if s.env.portHangs then .next s
    else
      .next (move
        { s with
          tmp := s.readAnswer idx
          env := s.envAfterRead
          trace := s.trace ++ [.read idx (s.readAnswer idx)] })
  else .fault (.noSuchRegister idx)

/-- `RegWrite(idx, v)` (R64): one full-word write, in effect before the next micro-step; then SEQ moves
by `move`. While the port hangs the micro-step does not end (U12). -/
def regWrite (idx : Nat) (v : Word) (move : State → State) (s : State) : Outcome :=
  if idx < Config.surfWords then
    if s.env.portHangs then .next s
    else .next (move { s with surf := s.surf.absorb s.cfg idx v, trace := s.trace ++ [.write idx v] })
  else .fault (.noSuchRegister idx)

/-! ### Accepting, rejecting and running a command (R36, R96, R97) -/

/-- The CMD write while not BUSY (R96), for every word. -/
def acceptWord (w : Word) (s : State) : State :=
  let s := { s with rej := false, done := false, err := .none, cmd := w }
  match decode w with
  | .error _ => { s with done := true, err := .illegalCommand }
  | .ok i =>
    if s.fatal then { s with done := true, err := .registerMapFailure }
    else if i.op.touchesSurface && !s.env.surfaceOk then
      { s with fatal := true, done := true, err := .registerMapFailure }
    else
      { s with
        opc := opcField w
        pinl := pinField w
        argl := argField w
        maxe := if opcField w = 0x9#4 then 42#6 else maxEdgesField w
        seq := .run i.op 1 0 }

/-- A write of CMD, CONFIG or TIMEOUT while BUSY does only this (R25, R97). -/
def State.reject (s : State) : State := { s with rej := true }

/-- The command in flight, from SEQ and the latched operands (R36, R38). -/
def State.inFlight (s : State) : Option Instr :=
  match s.seq with
  | .idle => none
  | .run op _ _ => some (op.instr s.pinl s.argl s.maxe)

/-- What every command does with its body: issued while the engine is idle it is accepted (R96); in
flight it makes one ENGINE step, `body` at the micro-step SEQ holds (R38); issued while another command
is in flight it is rejected (R97). -/
def runCommand (i : Instr) (body : Nat → State → Outcome) (s : State) : Outcome :=
  match s.seq with
  | .idle => .next (acceptWord (encode i) s)
  | .run _ k _ => if s.inFlight = some i then body k s else .next s.reject

/-! ### The host's accesses (R21, R66, R67) -/

/-- The content of host offset `off` (R21, R44, R105). -/
def State.hostWord (s : State) (off : BitVec 8) : Word :=
  match off.toNat with
  | 0x00 => s.cmd
  | 0x01 => s.statusWord
  | 0x02 => s.configWord
  | 0x03 => s.timeout
  | 0x04 => s.payload0Word
  | 0x05 => s.payload1Word
  | 0x06 => s.resultWord
  | n =>
    if n < 0x40 then 0#32
    else
      match s.ts[(n - 0x40) / 2]? with
      | none => 0#32
      | some t => if n % 2 = 0 then t.sec else (t.nsec.extractLsb' 0 30).setWidth 32

/-- `HostRead(off)`: the host sees the word; no state of OWPE changes (R66). -/
def hostRead (off : BitVec 8) (s : State) : State :=
  { s with seen := s.seen ++ [(off, s.hostWord off)] }

/-- `HostWrite(off, v)` for every offset but CMD's (R67): CONFIG keeps bits 1:0 (R26), TIMEOUT keeps the
word (R27), both only while not BUSY (R25); anything else is ignored (R44). -/
def hostWrite (off : BitVec 8) (v : Word) (s : State) : State :=
  match off.toNat with
  | 0x02 =>
    if s.busy then s.reject else { s with strategy := v.getLsbD 0, signmode := v.getLsbD 1 }
  | 0x03 => if s.busy then s.reject else { s with timeout := v }
  | _ => s

/-! ### Reset (R240, R242) -/

/-- The pull-up latch sequence has begun and is not over: between its micro-steps 1 and 6 (R242). -/
def State.inPullSequence (s : State) : Bool :=
  match s.seq with
  | .run .pullup k _ => decide (2 ≤ k) && decide (k ≤ 6)
  | .run .init k _ => decide (2 ≤ k) && decide (k ≤ 6)
  | .run .acq k _ => decide (2 ≤ k) && decide (k ≤ 6)
  | _ => false

/-- The pull configuration of the command's pin becomes a free value (U1; log entry 12). -/
def State.spoilPull (s : State) : State :=
  { s with
    surf :=
      { s.surf with
        pull := s.surf.pull.setIfInBounds s.pinl.toNat (Config.freePull s.env.freePulls) }
    env := { s.env with freePulls := s.env.freePulls + 1 } }

/-- A latch sequence cut short leaves the pin's pull configuration undefined: a free value (U1, R242). -/
def State.cutPull (s : State) : State := if s.inPullSequence then s.spoilPull else s

/-- The reset event (R240): all state of OWPE takes the values of R42 at once; no surface access, no
observation. The parameters, the environment and the histories are no state of OWPE and stay (R241). -/
def resetEvent (s : State) : State :=
  { State.reset with
    timeout := s.cfg.timeoutResetUs
    cfg := s.cfg
    env := s.cutPull.env
    surf := s.cutPull.surf
    trace := s.trace
    seen := s.seen }

/-! ### Other bus masters (R75, R247, R248) -/

/-- Another master's write to the surface. It is no event of OWPE's (R79). Where it touches the pull-control
or pull-clock register inside a latch sequence, the pin's pull configuration is undefined (R248, U1): a
free value, and so is the code that a later clock pulse would latch. -/
def otherMaster (idx : Nat) (v : Word) (s : State) : State :=
  let t := { s with surf := s.surf.absorb s.cfg idx v }
  if s.inPullSequence && (idx == s.cfg.idxPud || idx == s.cfg.idxPudclk) then
    let u := t.spoilPull
    { u with
      surf := { u.surf with pud := Config.freePull u.env.freePulls }
      env := { u.env with freePulls := u.env.freePulls + 1 } }
  else t

end Sys2Proof.Machine
end

