-- ==== Sys2Proof/Machine/Checksum.lean ====
section
/-! DEFINITION. The checksum validator: the pure function of R191, the command FIN (R185 to R191), and the
exact unit relations the host computes from RESULT (R192 to R194). -/

namespace Sys2Proof.Machine

/-- `payload[0] == (payload[1] + payload[2] + payload[3] + payload[4]) mod 256`, the sum a mathematical
integer (R186). -/
def checksumOk (b : Vector Byte 5) : Bool :=
  decide (b[0].toNat = (b[1].toNat + b[2].toNat + b[3].toNat + b[4].toNat) % 256)

/-- `(payload[4] << 8) | payload[3]` (R187). -/
def humidityField (b : Vector Byte 5) : BitVec 16 :=
  b[4].setWidth 16 <<< 8 ||| b[3].setWidth 16

/-- `((payload[2] & 0x7F) << 8) | payload[1]`, 15 bits (R188). -/
def magnitudeField (b : Vector Byte 5) : BitVec 15 :=
  (b[2] &&& 0x7F#8).setWidth 15 <<< 8 ||| b[1].setWidth 15

/-- The sign test: bit 7 of payload[2], or with SIGNMODE = 1 the reference behaviour (R189). -/
def signFlag (b2 : Byte) (signmode : Bool) : Bool :=
  if signmode then decide (b2 &&& 0x7F#8 ≠ 0#8) else b2.getLsbD 7

/-- The three fields of a Reading (R29). -/
structure Reading where
  hum  : BitVec 16
  tmag : BitVec 15
  neg  : Bool
  deriving DecidableEq, Repr

/-- `Finalize` (R191): none is ChecksumMismatch. -/
def finalize (b : Vector Byte 5) (signmode : Bool) : Option Reading :=
  if checksumOk b then some ⟨humidityField b, magnitudeField b, signFlag b[2] signmode⟩ else none

/-- The body of FIN, one micro-step, the finalize stage of ACQ too (R185, R200). -/
def finalizeBody (s : State) : Outcome :=
  if s.pvalid = false then .next (s.clearResult.raiseErr .noPayload)
  else
    match finalize s.payload s.signmode with
    | none => .next (s.clearResult.raiseErr .checksumMismatch)
    | some r =>
      .next { s with rvalid := true, hum := r.hum, tmag := r.tmag, neg := r.neg }.complete

/-- `FIN` (R185). -/
def finStep (k : Nat) (s : State) : Outcome :=
  match k with
  | 1 => finalizeBody s
  | _ => stray s

/-- The meaning of FIN (R96, R185). -/
def execFin (s : State) : Outcome := runCommand .fin finStep s

/-! ### Physical units, for the host (R192 to R194); no step computes them -/

/-- Humidity in percent, `HUM / 10` (R192). -/
def Reading.humidityPercent (r : Reading) : Rat := (r.hum.toNat : Rat) / 10

/-- Temperature in degrees Celsius, `TMAG / 10`, negated when NEG = 1 (R193). -/
def Reading.celsius (r : Reading) : Rat :=
  if r.neg then -((r.tmag.toNat : Rat) / 10) else (r.tmag.toNat : Rat) / 10

/-- Temperature in degrees Fahrenheit, `C * 9 / 5 + 32` (R194). -/
def Reading.fahrenheit (r : Reading) : Rat := r.celsius * 9 / 5 + 32

/-- Hundredths of a degree Fahrenheit, `s * TMAG * 18 + 3200` (R194). -/
def Reading.fahrenheitHundredths (r : Reading) : Int :=
  (if r.neg then -1 else 1) * (r.tmag.toNat : Int) * 18 + 3200

end Sys2Proof.Machine
end

