-- ==== Sys2Proof/Machine/EdgeCapture.lean ====
section
/-! DEFINITION. The edge capture loop and its deadline watchdog, command CAPT (R150 to R159). -/

namespace Sys2Proof.Machine

/-- Record an edge: `TS[EDGECNT] <- Now(); EDGECNT <- EDGECNT + 1` in one step (R30, R151, R152); then
SEQ moves by `move`. -/
def recordEdge (move : State → State) (s : State) : Outcome :=
  if h : s.edgecnt.toNat < 42 then
    .next (move
      { s.observed with
        ts := s.observed.ts.set s.edgecnt.toNat s.nowAnswer h
        edgecnt := s.edgecnt + 1#6 })
  else .fault (.noSuchEntry s.edgecnt.toNat)

/-- Step 1: the previous acquisition's transient data are discarded; TS is not (R150, R33). -/
def beginCapture (s : State) : State :=
  { s.clearPayload.clearResult with edgecnt := 0#6, trunc := false }

/-- Step 5: the deadline test with a fresh observation; `>` is strict (R150, R153). -/
def deadlineTest (s : State) : Outcome :=
  if deadlineNs s.timeout < elapsedNs s.t0 s.nowAnswer then
    .next ({ s.observed with trunc := true }.raiseErr .captureTimeout)
  else .next s.observed.advance

/-- Step 6 with STRATEGY = 0, lines 6a, 6b, 6c (R151). -/
def pollBody (p : Pin) (s : State) : Outcome :=
  match s.sub with
  | 0 => regRead s.cfg.idxLev (State.within 1) s
  | 1 =>
    if s.prev && !pinBit s.tmp p then recordEdge (State.within 2) s else .next (s.within 2)
  | _ => .next { s with prev := pinBit s.tmp p }.advance

/-- Step 6 with STRATEGY = 1: line 6a, the clearing write of 6b, its timestamp (R152). -/
def flagBody (p : Pin) (s : State) : Outcome :=
  match s.sub with
  | 0 => regRead s.cfg.idxEds (State.within 1) s
  | 1 =>
    if pinBit s.tmp p then regWrite s.cfg.idxEds (oneHot p) (State.within 2) s
    else .next s.advance
  | _ => recordEdge State.advance s

/-- Steps 1 to 8 of CAPT, the capture stage of ACQ too (R150, R200). `n` is MAXE and `counted` is what
reaching the count does: `complete` in CAPT, going on to the decode stage in ACQ. -/
def captureStep (p : Pin) (n : BitVec 6) (counted : State → State) (k : Nat) (s : State) : Outcome :=
  match k with
  | 1 => .next (beginCapture s).advance
  | 2 => .next { s with prev := true }.advance
  | 3 => .next { s.observed with t0 := s.nowAnswer }.advance
  | 4 => if s.edgecnt = n then .next (counted s) else .next s.advance
  | 5 => deadlineTest s
  | 6 => if s.strategy then flagBody p s else pollBody p s
  | 7 => if 0 < s.cfg.tPollNs then wait s.cfg.tPollNs s else .next s.advance
  | _ => stray s

/-- `CAPT p, n` (R150): step 8 goes back to step 4. -/
def captStep (p : Pin) (n : BitVec 6) (k : Nat) (s : State) : Outcome :=
  match k with
  | 8 => .next (s.goto 4)
  | k => captureStep p n State.complete k s

/-- The meaning of CAPT (R96, R150). -/
def execCapt (p : Pin) (n : BitVec 6) (s : State) : Outcome := runCommand (.capt p n) (captStep p n) s

end Sys2Proof.Machine
end

