-- ==== Sys2Proof/Machine/FrameDecoder.lean ====
section
/-! DEFINITION. The frame decoder: the pure function of R176 and the command DEC (R170 to R176). -/

namespace Sys2Proof.Machine

/-- The signed duration from `lo` to `hi` as seconds and nanoseconds, one second borrowed into the
nanoseconds when their difference is negative (R171). -/
def interval (lo hi : Timestamp) : Int × Int :=
  let dsec := (hi.sec.toNat : Int) - (lo.sec.toNat : Int)
  let dnsec := (hi.nsec.toNat : Int) - (lo.nsec.toNat : Int)
  if dnsec < 0 then (dsec - 1, dnsec + 1000000000) else (dsec, dnsec)

/-- The bit of one interval: seconds positive, or the truncated microsecond component above the
threshold (R172). -/
def intervalBit (threshUs : Nat) (lo hi : Timestamp) : Bool :=
  decide (0 < (interval lo hi).1) || decide ((threshUs : Int) < (interval lo hi).2 / 1000)

/-- Bit `b` of the frame, from the interval that ends at edge `b + 2` (R103, R171). -/
def frameBit (threshUs : Nat) (e : Vector Timestamp 42) (b : Nat) : Bool :=
  intervalBit threshUs (e[b + 1]?.getD Timestamp.zero) (e[b + 2]?.getD Timestamp.zero)

/-- One line of the packing: bit `b` or-ed into bit `7 - (b mod 8)` of byte `4 - (b div 8)` (R173). -/
def packBit (b : Nat) (v : Bool) (payload : Vector Byte 5) : Vector Byte 5 :=
  payload.setIfInBounds (4 - b / 8)
    (payload[4 - b / 8]?.getD 0#8 ||| (BitVec.ofBool v).setWidth 8 <<< (7 - b % 8))

/-- `Decode` (R173, R176): the forty bits packed into five bytes that start at zero. -/
def frameDecode (threshUs : Nat) (e : Vector Timestamp 42) : Vector Byte 5 :=
  (List.range 40).foldl (fun payload b => packBit b (frameBit threshUs e b) payload) zeroPayload

/-- The body of DEC, one micro-step, the decode stage of ACQ too (R170, R200); `decoded` is what success
does: `complete` in DEC, going on to the finalize stage in ACQ. -/
def decodeBody (decoded : State → State) (s : State) : Outcome :=
  if s.edgecnt.toNat < 42 then .next (s.clearPayload.clearResult.raiseErr .insufficientEdges)
  else
    .next (decoded
      { s.clearResult with pvalid := true, payload := frameDecode s.cfg.threshUs s.ts })

/-- `DEC` (R170). -/
def decStep (k : Nat) (s : State) : Outcome :=
  match k with
  | 1 => decodeBody State.complete s
  | _ => stray s

/-- The meaning of DEC (R96, R170). -/
def execDec (s : State) : Outcome := runCommand .dec decStep s

end Sys2Proof.Machine
end

