-- ==== Sys2Proof/Machine/PinController.lean ====
section
/-! DEFINITION. The pin controller commands PULLUP, SETDIR, SETLVL and RDLVL (R120 to R125). -/

namespace Sys2Proof.Machine

/-- Micro-steps 1 to 6 of the pull-up latch sequence, shared by PULLUP, INIT and ACQ (R121, R140). -/
def pullStep (p : Pin) (k : Nat) (s : State) : Outcome :=
  match k with
  | 1 => regWrite s.cfg.idxPud s.cfg.pudUp State.advance s
  | 2 => wait s.cfg.tSettleNs s
  | 3 => regWrite s.cfg.idxPudclk (oneHot p) State.advance s
  | 4 => wait s.cfg.tSettleNs s
  | 5 => regWrite s.cfg.idxPud s.cfg.pudOff State.advance s
  | 6 => regWrite s.cfg.idxPudclk 0#32 State.advance s
  | _ => stray s

/-- The read half of a direction change (R122 micro-step 1). -/
def dirRead (p : Pin) (s : State) : Outcome := regRead (fselIndex s.cfg p) State.advance s

/-- The write half of a direction change: TMP with exactly the pin's field replaced (R122 micro-step 2). -/
def dirWrite (p : Pin) (d : Dir) (s : State) : Outcome :=
  regWrite (fselIndex s.cfg p) (fselInsert s.tmp p (dirCode s.cfg d)) State.advance s

/-- The one write of a level change (R123 micro-step 1). -/
def levelWrite (p : Pin) (l : Level) (s : State) : Outcome :=
  match l with
  | .high => regWrite s.cfg.idxSet (oneHot p) State.advance s
  | .low => regWrite s.cfg.idxClr (oneHot p) State.advance s

/-- `PULLUP p` (R121). -/
def pullupStep (p : Pin) (k : Nat) (s : State) : Outcome :=
  match k with
  | 7 => .next s.complete
  | k => pullStep p k s

/-- `SETDIR p, d` (R122). -/
def setdirStep (p : Pin) (d : Dir) (k : Nat) (s : State) : Outcome :=
  match k with
  | 1 => dirRead p s
  | 2 => dirWrite p d s
  | 3 => .next s.complete
  | _ => stray s

/-- `SETLVL p, l` (R123). -/
def setlvlStep (p : Pin) (l : Level) (k : Nat) (s : State) : Outcome :=
  match k with
  | 1 => levelWrite p l s
  | 2 => .next s.complete
  | _ => stray s

/-- `RDLVL p` (R124). -/
def rdlvlStep (p : Pin) (k : Nat) (s : State) : Outcome :=
  match k with
  | 1 => regRead s.cfg.idxLev State.advance s
  | 2 => .next { s with level := pinBit s.tmp p }.advance
  | 3 => .next s.complete
  | _ => stray s

/-- The meaning of PULLUP (R96, R121). -/
def execPullup (p : Pin) (s : State) : Outcome := runCommand (.pullup p) (pullupStep p) s

/-- The meaning of SETDIR (R96, R122). -/
def execSetdir (p : Pin) (d : Dir) (s : State) : Outcome := runCommand (.setdir p d) (setdirStep p d) s

/-- The meaning of SETLVL (R96, R123). -/
def execSetlvl (p : Pin) (l : Level) (s : State) : Outcome := runCommand (.setlvl p l) (setlvlStep p l) s

/-- The meaning of RDLVL (R96, R124). -/
def execRdlvl (p : Pin) (s : State) : Outcome := runCommand (.rdlvl p) (rdlvlStep p) s

end Sys2Proof.Machine
end

