-- ==== Sys2Proof/Machine/SignalInitiator.lean ====
section
/-! DEFINITION. The signal initiator command INIT (R140 to R142). -/

namespace Sys2Proof.Machine

/-- Micro-steps 1 to 14 of INIT, the initiate stage of ACQ too (R140, R200). -/
def initiateStep (p : Pin) (k : Nat) (s : State) : Outcome :=
  match k with
  | 7 => levelWrite p .high s
  | 8 => dirRead p s
  | 9 => dirWrite p .output s
  | 10 => levelWrite p .low s
  | 11 => wait s.cfg.tHoldLowNs s
  | 12 => levelWrite p .high s
  | 13 => dirRead p s
  | 14 => dirWrite p .input s
  | k => pullStep p k s

/-- `INIT p` (R140). -/
def initStep (p : Pin) (k : Nat) (s : State) : Outcome :=
  match k with
  | 15 => .next s.complete
  | k => initiateStep p k s

/-- The meaning of INIT (R96, R140). -/
def execInit (p : Pin) (s : State) : Outcome := runCommand (.init p) (initStep p) s

end Sys2Proof.Machine
end

