-- ==== Sys2Proof/Machine/Acquire.lean ====
section
/-! DEFINITION. The composite acquisition command ACQ (R200 to R202). -/

namespace Sys2Proof.Machine

/-- `ACQ p` (R200): INIT's micro-steps 1 to 14, CAPT's steps 1 to 8 as 15 to 22 with MAXE = 42, DEC's
body as 23, FIN's body as 24. -/
def acqStep (p : Pin) (k : Nat) (s : State) : Outcome :=
  match k with
  | 15 => captureStep p 42#6 (State.goto 23) 1 s
  | 16 => captureStep p 42#6 (State.goto 23) 2 s
  | 17 => captureStep p 42#6 (State.goto 23) 3 s
  | 18 => captureStep p 42#6 (State.goto 23) 4 s
  | 19 => captureStep p 42#6 (State.goto 23) 5 s
  | 20 => captureStep p 42#6 (State.goto 23) 6 s
  | 21 => captureStep p 42#6 (State.goto 23) 7 s
  | 22 => .next (s.goto 18)
  | 23 => decodeBody (State.goto 24) s
  | 24 => finalizeBody s
  | k => initiateStep p k s

/-- The meaning of ACQ (R96, R200). -/
def execAcq (p : Pin) (s : State) : Outcome := runCommand (.acq p) (acqStep p) s

end Sys2Proof.Machine
end

