-- ==== Sys2Proof/Machine/Dispatch.lean ====
section
/-! DEFINITION. The meaning of each instruction, one arm a constructor. -/

namespace Sys2Proof.Machine

def exec (i : Instr) (s : State) : Host.Outcome State Fault Refusal :=
  match i with
  | .pullup p => Sys2Proof.Machine.execPullup p s
  | .setdir p d => Sys2Proof.Machine.execSetdir p d s
  | .setlvl p l => Sys2Proof.Machine.execSetlvl p l s
  | .rdlvl p => Sys2Proof.Machine.execRdlvl p s
  | .init p => Sys2Proof.Machine.execInit p s
  | .capt p n => Sys2Proof.Machine.execCapt p n s
  | .dec => Sys2Proof.Machine.execDec s
  | .fin => Sys2Proof.Machine.execFin s
  | .acq p => Sys2Proof.Machine.execAcq p s

end Sys2Proof.Machine
end

