-- ==== Sys2Proof/Machine/Fetch.lean ====
section
/-! DEFINITION. Which agent moves and which command its move runs (R5, R38, R76). The command word of a CMD
write is what OWPE fetches (R76). -/

namespace Sys2Proof.Machine

/-- What a step found to do. -/
inductive Fetched where
  /-- Run this command in this state. -/
  | command (i : Instr) (s : State)
  /-- Another agent's move, or an idle engine: the step ends in this state. -/
  | settled (s : State)
  deriving DecidableEq, Repr

/-- The script with its first move taken. -/
def State.withScript (moves : List Move) (s : State) : State :=
  { s with env := { s.env with script := moves } }

/-- The ENGINE's turn: the next step of the command in flight; an idle OWPE does nothing and keeps all its
state (R38, R228). -/
def engineTurn (s : State) : Fetched :=
  match s.inFlight with
  | some i => .command i s
  | none => .settled s

/-- `HostWrite(0x00, w)`: rejected while BUSY (R97), else accepted; a legal word is its command, an
illegal one ends at acceptance (R96, R98). -/
def commandWrite (w : Word) (s : State) : Fetched :=
  if s.busy then .settled s.reject
  else
    match decode w with
    | .ok i => .command i s
    | .error _ => .settled (acceptWord w s)

/-- One move of an agent; `s` is the state with the move taken off the script. -/
def perform (m : Move) (s : State) : Fetched :=
  match m with
  | .engine => engineTurn s
  | .read off => .settled (hostRead off s)
  | .write off v => if off = 0x00#8 then commandWrite v s else .settled (hostWrite off v s)
  | .poll =>
    if s.busy then .settled ((hostRead 0x01#8 s).withScript (.engine :: .poll :: s.env.script))
    else .settled (hostRead 0x01#8 s)
  | .reset => .settled (resetEvent s)
  | .flags v => .settled { s with surf := { s.surf with eds := s.surf.eds ||| v } }
  | .line v => .settled { s with surf := { s.surf with line := v } }
  | .master idx v => .settled (otherMaster idx v s)

/-- The next move: the script's first, or the ENGINE's turn where the script is empty (log entry 7). -/
def fetch (s : State) : Fetched :=
  match s.env.script with
  | [] => engineTurn s
  | m :: rest => perform m (s.withScript rest)

end Sys2Proof.Machine
end

