-- ==== Sys2Proof/Machine/Step.lean ====
section
/-! DEFINITION. One step of the machine (R38). -/

namespace Sys2Proof.Machine

/-- One step: the next agent moves; where its move runs a command, the step is that command's. -/
def step (s : State) : Host.Outcome State Fault Refusal :=
  match fetch s with
  | .command i t => exec i t
  | .settled t => .next t

/-- `s` with the command word placed where the machine fetches its next command: the host's next move
is to write it to CMD, and the engine is idle to accept it (R76, R96; log entry 8). -/
def State.withFetchWord (s : State) (nbits w : Nat) : State :=
  { s with
    seq := .idle
    env := { s.env with script := .write 0x00#8 (tableWord nbits w) :: s.env.script } }

end Sys2Proof.Machine
end

