-- ==== Sys2Proof/Machine/HostProgram.lean ====
section
/-! DEFINITION. Host programs (R106 to R109): the lines of the spec's syntax and the host moves they stand
for. -/

namespace Sys2Proof.Machine

/-- One line of a host program (R106). -/
inductive HostLine where
  /-- One of the nine command lines. -/
  | command (i : Instr)
  /-- `WR CONFIG, v`. -/
  | wrConfig (v : Word)
  /-- `WR TIMEOUT, v`. -/
  | wrTimeout (v : Word)
  /-- `RD reg`, the register named by its offset (R21). -/
  | rd (off : BitVec 8)
  /-- `POLL`. -/
  | poll
  deriving DecidableEq, Repr

/-- The host move a line stands for (R106). -/
def HostLine.move : HostLine → Move
  | .command i => .write 0x00#8 (encode i)
  | .wrConfig v => .write 0x02#8 v
  | .wrTimeout v => .write 0x03#8 v
  | .rd off => .read off
  | .poll => .poll

/-- A machine about to run a host program, its lines one after the other with no turn of another agent
between them: DESIGN CHOICE, log entry 26 (R5, R217 leave the interleaving open). The ENGINE has its turns
at POLL and after the last line, so a second command line with no POLL before it is rejected (R97). Any
other interleaving is a script with the other agents' moves written between the lines (`withScript`). -/
def State.withProgram (lines : List HostLine) (s : State) : State :=
  s.withScript (lines.map HostLine.move)

/-- The HOST's moves, the lines of a host program; every other move is another agent's (R5, R106). -/
def Move.byHost : Move → Bool
  | .engine => false
  | .read _ => true
  | .write _ _ => true
  | .poll => true
  | .reset => false
  | .flags _ => false
  | .line _ => false
  | .master _ _ => false

/-- A run of a host program has ended: the host has no more lines and OWPE is idle (R256). What the other
agents have still to do does not count. -/
def State.runEnded (s : State) : Bool := !s.env.script.any Move.byHost && !s.busy

end Sys2Proof.Machine
end

