-- ==== Sys2Proof/Safety.lean ====
section
/-! DEFINITION. What counts as a safe run: the invariant of the machine, the premises on the environment
(R13, R70, R243), and what the statements say about a run. -/

namespace Sys2Proof.Machine

/-! ### Runs -/

/-- `n` steps of the machine, up to the first stop. -/
abbrev runFor (n : Nat) (s : State) : Outcome := Host.Core.run Sys2Proof.core n s

/-- Only the ENGINE moves and its accesses complete: no host, reset or surface move is scripted, the port
does not hang, and the surface indices exist (R69, R243). -/
def State.undisturbed (s : State) : Prop :=
  s.env.script = [] ∧ s.env.portHangs = false ∧ s.cfg.indicesLegal = true

/-- A surface access of the ENGINE completes: the port does not hang and the surface indices exist
(R63, R64, R69). -/
def State.portReady (s : State) : Prop := s.env.portHangs = false ∧ s.cfg.indicesLegal = true

/-- What one `RegWrite(idx, v)` micro-step leaves (R64): the write in effect, its event, the next
micro-step. -/
def State.afterWrite (idx : Nat) (v : Word) (s : State) : State :=
  { s with
    surf := s.surf.absorb s.cfg idx v
    trace := s.trace ++ [.write idx v]
    seq := s.seq.advance }

/-- What one `RegRead(idx)` micro-step leaves (R63): the answer in TMP, its event, the next micro-step. -/
def State.afterRead (idx : Nat) (s : State) : State :=
  { s with
    tmp := s.readAnswer idx
    env := s.envAfterRead
    trace := s.trace ++ [.read idx (s.readAnswer idx)]
    seq := s.seq.advance }

/-- What one observation of a `Wait(d)` micro-step leaves (R14): the first is the start time TW, a later
one ends the wait when at least `d` has elapsed since. -/
def State.afterWait (d : Nat) (s : State) : State :=
  { s with
    env := s.envAfterNow
    trace := s.trace ++ [.now s.nowAnswer]
    tw := if s.sub = 0 then s.nowAnswer else s.tw
    seq :=
      if s.sub = 0 then s.seq.within 1
      else if (d : Int) ≤ elapsedNs s.tw s.nowAnswer then s.seq.advance
      else s.seq }

/-- The data registers are the same: TS, EDGECNT, TRUNC, PAYLOAD, PVALID, RESULT, RVALID (R43). -/
def sameData (s t : State) : Prop :=
  t.ts = s.ts ∧ t.edgecnt = s.edgecnt ∧ t.trunc = s.trunc ∧ t.payload = s.payload
    ∧ t.pvalid = s.pvalid ∧ t.hum = s.hum ∧ t.tmag = s.tmag ∧ t.neg = s.neg ∧ t.rvalid = s.rvalid

/-- What only the host, acceptance or reset writes is the same (R43): CMD, FATAL, REJ, CONFIG, TIMEOUT,
the latched operands, and the parameters of the instantiation (R40). -/
def sameControl (s t : State) : Prop :=
  t.cmd = s.cmd ∧ t.fatal = s.fatal ∧ t.rej = s.rej ∧ t.strategy = s.strategy
    ∧ t.signmode = s.signmode ∧ t.timeout = s.timeout ∧ t.opc = s.opc ∧ t.pinl = s.pinl
    ∧ t.argl = s.argl ∧ t.maxe = s.maxe ∧ t.cfg = s.cfg ∧ t.seen = s.seen

/-- The inputs that answer nothing are the same: the script of the other agents, `surface_ok`, the state
of the port, the kind of oracle. -/
def sameInputs (s t : State) : Prop :=
  t.env.script = s.env.script ∧ t.env.surfaceOk = s.env.surfaceOk
    ∧ t.env.portHangs = s.env.portHangs ∧ t.env.bareOracle = s.env.bareOracle
    ∧ t.env.freePulls = s.env.freePulls

/-! ### Premises on the timebase (R13) -/

/-- Premise (a): a well-formed observation. -/
def timeWellFormed (t : Timestamp) : Prop := t.nsec.toNat ≤ 999999999

/-- `a <= b` on timestamps (R12). -/
def timeLe (a b : Timestamp) : Prop := 0 ≤ elapsedNs a b

/-- Premise (b): of two observations the later is not before the earlier. -/
def monotonic (l : List Timestamp) : Prop := l.Pairwise timeLe

/-- Premise (c) for one `Wait(D)`: the observations of a wait that ends, its start, polls with less than
`D` elapsed, and the one at which at least `D` has elapsed (R14). -/
def waitObservations (d : Nat) (start : Timestamp) (polls : List Timestamp) (last : Timestamp) : Prop :=
  (∀ t ∈ polls, elapsedNs start t < (d : Int)) ∧ (d : Int) ≤ elapsedNs start last

/-- `TB_RES_NS` (R7): of two observations one after the other in a wait, the later is ahead of the
earlier by at most the granularity of the timebase. -/
def granular (c : Params) (l : List Timestamp) : Prop :=
  l.IsChain fun a b => elapsedNs a b ≤ (c.tbResNs : Int)

/-! ### The invariant -/

/-- The number of the last micro-step of each command (R121 to R124, R140, R150, R170, R185, R200). -/
def Op.lastStep : Op → Nat
  | .pullup => 7
  | .setdir => 3
  | .setlvl => 2
  | .rdlvl => 3
  | .init => 15
  | .capt => 8
  | .dec => 1
  | .fin => 1
  | .acq => 24

/-- The step of CAPT's body that SEQ stands at: CAPT's own, or ACQ's 15 to 22 (R200). -/
def Seq.captureAt : Seq → Option Nat
  | .run .capt k _ => some k
  | .run .acq k _ => if 15 ≤ k ∧ k ≤ 22 then some (k - 14) else none
  | _ => none

/-- The sequencer and the latched operands (R24, R25, R35, R36, R38): a command in flight stands at one of
its micro-steps, its opcode is the latched one and CMD's, it is running with DONE = 0, ERR = 0 and
FATAL = 0, and its edge count is at most 42. -/
def State.sequencerOk (s : State) : Prop :=
  match s.seq with
  | .idle => True
  | .run op k _ =>
    1 ≤ k ∧ k ≤ Op.lastStep op ∧ s.opc = op.code ∧ s.done = false ∧ s.err = .none ∧ s.fatal = false
      ∧ decode s.cmd = .ok (op.instr s.pinl s.argl s.maxe)
      ∧ (op = .capt → s.maxe.toNat ≤ 42) ∧ (op = .acq → s.maxe = 42#6)

/-- The edge count (R31): at most 42; from the end of a capture's first step on, at most MAXE; 0 until
the loop is entered, and less than MAXE where an edge may still be recorded. -/
def State.edgesOk (s : State) : Prop :=
  s.edgecnt.toNat ≤ 42
    ∧ match s.seq.captureAt with
      | none => True
      | some k =>
        (2 ≤ k → s.edgecnt.toNat ≤ s.maxe.toNat)
          ∧ (k = 2 ∨ k = 3 → s.edgecnt = 0#6)
          ∧ (k = 5 → s.edgecnt.toNat < s.maxe.toNat)
          ∧ (k = 6 → (s.strategy = true ∨ s.sub < 2) → s.edgecnt.toNat < s.maxe.toNat)

/-- PAYLOAD and RESULT (R29, R33, R190): cleared where not valid, what a decode of 42 edges and a finalize
with matching checksum give where valid, and discarded during a capture. -/
def State.dataOk (s : State) : Prop :=
  (s.pvalid = false → s.payload = zeroPayload)
    ∧ (s.rvalid = false → s.hum = 0#16 ∧ s.tmag = 0#15 ∧ s.neg = false)
    ∧ (s.pvalid = true → s.edgecnt = 42#6 ∧ s.payload = frameDecode s.cfg.threshUs s.ts)
    ∧ (s.rvalid = true →
        s.pvalid = true ∧ ∃ mode, finalize s.payload mode = some ⟨s.hum, s.tmag, s.neg⟩)
    ∧ (∀ k, s.seq.captureAt = some k → 2 ≤ k →
        s.pvalid = false ∧ s.rvalid = false ∧ s.trunc = false)

/-- TRUNC and ERR (R32, R154, R157, R210): what each error code records. -/
def State.reportsOk (s : State) : Prop :=
  (s.trunc = true → s.edgecnt.toNat < 42)
    ∧ (s.err ≠ .none → s.done = true)
    ∧ (s.err = .registerMapFailure → s.fatal = true)
    ∧ (s.err = .captureTimeout → s.trunc = true)
    ∧ (s.err = .insufficientEdges → s.edgecnt.toNat < 42 ∧ s.pvalid = false)
    ∧ (s.err = .checksumMismatch →
        s.pvalid = true ∧ s.rvalid = false ∧ checksumOk s.payload = false)
    ∧ (s.err = .noPayload → s.pvalid = false ∧ s.rvalid = false)
    ∧ (s.err = .illegalCommand → ∃ why, decode s.cmd = .error why)

/-- The later stages of ACQ (R200, R201): the decode stage has 42 edges and the finalize stage a payload. -/
def State.stagesOk (s : State) : Prop :=
  match s.seq with
  | .run .acq 23 _ => s.edgecnt = 42#6
  | .run .acq 24 _ => s.pvalid = true
  | _ => True

/-- The invariant of the machine: it holds after reset and every step keeps it. -/
structure State.Inv (s : State) : Prop where
  indices : s.cfg.indicesLegal = true
  sequencer : s.sequencerOk
  edges : s.edgesOk
  data : s.dataOk
  reports : s.reportsOk
  stages : s.stagesOk

/-! ### The pin under INIT and ACQ (R141, R218) -/

/-- The output latch of the command's pin. -/
def State.pinLatch (s : State) : Bool := s.surf.latch.getLsbD s.pinl.toNat

/-- The function code of the command's pin. -/
def State.pinCode (s : State) : BitVec 3 := s.surf.code s.pinl

/-- What the pin's latch and function code are before micro-step `k` of INIT or ACQ: the latch is set
high before the pin becomes an output and again before it is given back (R141). -/
def State.startPulseOk (s : State) (k : Nat) : Prop :=
  (8 ≤ k → k ≤ 10 → s.pinLatch = true)
    ∧ (11 ≤ k → k ≤ 12 → s.pinLatch = false)
    ∧ (13 ≤ k → s.pinLatch = true)
    ∧ (10 ≤ k → k ≤ 14 → s.pinCode = s.cfg.fselOutput)
    ∧ (15 ≤ k → s.pinCode = s.cfg.fselInput)

/-- The start pulse at every position of INIT and ACQ. -/
def State.pinOk (s : State) : Prop :=
  match s.seq with
  | .run .init k _ => s.startPulseOk k
  | .run .acq k _ => s.startPulseOk k
  | _ => True

/-! ### The order of recorded time (R157) -/

/-- The recorded edges are well-formed and in order, none before T0, and none after an answer the
timebase is yet to give; the answers to come are well-formed and in order (R13, R157). -/
def State.timeOk (s : State) : Prop :=
  monotonic s.env.times
    ∧ (∀ t ∈ s.env.times, timeWellFormed t ∧ timeLe s.t0 t)
    ∧ ∀ i : Fin 42, i.val < s.edgecnt.toNat →
        timeWellFormed s.ts[i] ∧ timeLe s.t0 s.ts[i] ∧ (∀ t ∈ s.env.times, timeLe s.ts[i] t)
          ∧ ∀ j : Fin 42, i.val < j.val → j.val < s.edgecnt.toNat → timeLe s.ts[i] s.ts[j]

/-- A position of INIT or CAPT as the same position of ACQ, `base` micro-steps further on (R200). -/
def Seq.inAcq (base : Nat) : Seq → Seq
  | .idle => .idle
  | .run _ k b => .run .acq (k + base) b

/-- The surface indices OWPE uses for pins 0 to 31 (R62). -/
def usesOnlyMapped (c : Params) : Event → Prop
  | .read idx _ =>
    (c.idxFsel ≤ idx ∧ idx ≤ c.idxFsel + 3) ∨ idx = c.idxLev ∨ idx = c.idxEds
  | .write idx _ =>
    (c.idxFsel ≤ idx ∧ idx ≤ c.idxFsel + 3) ∨ idx = c.idxSet ∨ idx = c.idxClr ∨ idx = c.idxEds
      ∨ idx = c.idxPud ∨ idx = c.idxPudclk
  | .now _ => True

end Sys2Proof.Machine
end

