-- ==== Sys2Proof/Certificates/Slice0/Obligations.lean ====
section
/-! DEFINITION. The statements for the provers, from the numbered rules of spec/. -/

open Sys2Proof Sys2Proof.Machine

/-! ### The command word -/

/-- R91, R93, R106: decoding the word of a well-formed command gives it back. -/
def Obligations.DecodeEncodeRoundTrip : Prop :=
  ∀ i : Instr, i.wellFormed = true → decode (encode i) = .ok i

/-- R95, R99: a legal word has one meaning: it is the word of the command it decodes to, and that command
is well formed. -/
def Obligations.EncodeDecodeRoundTrip : Prop :=
  ∀ (w : Word) (i : Instr), decode w = .ok i → i.wellFormed = true ∧ encode i = w

/-- R95: the three clauses of legality, with the must-be-zero masks of R92 written out. -/
def Obligations.LegalWordsExactly : Prop :=
  ∀ w : Word,
    (∃ i, decode w = .ok i) ↔
      (1 ≤ (w.extractLsb' 0 4).toNat ∧ (w.extractLsb' 0 4).toNat ≤ 9)
        ∧ w &&& (if (w.extractLsb' 0 4) = 0x7#4 ∨ (w.extractLsb' 0 4) = 0x8#4 then 0xFFFFFFF0#32
            else if (w.extractLsb' 0 4) = 0x2#4 ∨ (w.extractLsb' 0 4) = 0x3#4 then 0xFFFEE0F0#32
            else if (w.extractLsb' 0 4) = 0x6#4 then 0xC0FFE0F0#32
            else 0xFFFFE0F0#32) = 0#32
        ∧ ((w.extractLsb' 0 4) = 0x6#4 → (w.extractLsb' 24 6).toNat ≤ 42)

/-- R93, R106 and vectors V-ENC-1: words written out from the encoding decode to their commands. -/
def Obligations.SpecWordsDecode : Prop :=
  decode 0x00000401#32 = .ok (.pullup 4#5)
    ∧ decode 0x00010402#32 = .ok (.setdir 4#5 .output)
    ∧ decode 0x00000402#32 = .ok (.setdir 4#5 .input)
    ∧ decode 0x00011F03#32 = .ok (.setlvl 31#5 .high)
    ∧ decode 0x00000403#32 = .ok (.setlvl 4#5 .low)
    ∧ decode 0x00001F04#32 = .ok (.rdlvl 31#5)
    ∧ decode 0x00000405#32 = .ok (.init 4#5)
    ∧ decode 0x2A000406#32 = .ok (.capt 4#5 42#6)
    ∧ decode 0x02001106#32 = .ok (.capt 17#5 2#6)
    ∧ decode 0x00000007#32 = .ok .dec
    ∧ decode 0x00000008#32 = .ok .fin
    ∧ decode 0x00000409#32 = .ok (.acq 4#5)
    ∧ decode 0x00000000#32 = .error .reservedOpcode
    ∧ decode 0x2B000406#32 = .error .tooManyEdges
    ∧ decode 0x00010401#32 = .error .nonzeroField

/-! ### The host window -/

/-- R96: what the CMD write does while BUSY = 0, for every word, in the order of the checks (R217). -/
def Obligations.CommandWriteWhileIdle : Prop :=
  ∀ (s : State) (w : Word) (rest : List Move),
    s.env.script = .write 0x00#8 w :: rest → s.seq = .idle →
      step s = .next
        (match decode w with
        | .error _ =>
          { s.withScript rest with rej := false, done := true, err := .illegalCommand, cmd := w }
        | .ok i =>
          if s.fatal = true then
            { s.withScript rest with rej := false, done := true, err := .registerMapFailure, cmd := w }
          else if (w.extractLsb' 0 4 ≠ 0x7#4 ∧ w.extractLsb' 0 4 ≠ 0x8#4) ∧ s.env.surfaceOk = false then
            { s.withScript rest with
              rej := false, done := true, err := .registerMapFailure, cmd := w, fatal := true }
          else
            { s.withScript rest with
              rej := false, done := false, err := .none, cmd := w
              opc := w.extractLsb' 0 4, pinl := w.extractLsb' 8 5, argl := w.getLsbD 16
              maxe := if w.extractLsb' 0 4 = 0x9#4 then 42#6 else w.extractLsb' 24 6
              seq := .run i.op 1 0 })

/-- R97: the CMD write while BUSY = 1 sets REJ and does nothing else, whatever the word. -/
def Obligations.CommandWriteWhileBusy : Prop :=
  ∀ (s : State) (w : Word) (rest : List Move),
    s.env.script = .write 0x00#8 w :: rest → s.seq ≠ .idle →
      step s = .next { s.withScript rest with rej := true }

/-- R25, R26, R27: CONFIG keeps bits 1:0 and TIMEOUT the whole word while not BUSY; while BUSY both writes
are dropped and set REJ. -/
def Obligations.ConfigAndTimeoutWrites : Prop :=
  ∀ (s : State) (v : Word) (rest : List Move),
    (s.env.script = .write 0x02#8 v :: rest →
      step s = .next
        (if s.seq = .idle then
          { s.withScript rest with strategy := v.getLsbD 0, signmode := v.getLsbD 1 }
        else { s.withScript rest with rej := true }))
    ∧ (s.env.script = .write 0x03#8 v :: rest →
      step s = .next
        (if s.seq = .idle then { s.withScript rest with timeout := v }
        else { s.withScript rest with rej := true }))

/-- R44: reserved offsets read as 0; a write to a reserved offset or a read-only register changes
nothing, not even REJ. -/
def Obligations.ReservedAndReadOnlyOffsets : Prop :=
  (∀ (s : State) (off : BitVec 8),
      (0x07 ≤ off.toNat ∧ off.toNat ≤ 0x3F) ∨ 0x94 ≤ off.toNat → s.hostWord off = 0#32)
    ∧ ∀ (s : State) (off : BitVec 8) (v : Word) (rest : List Move),
        s.env.script = .write off v :: rest → off ≠ 0x00#8 → off ≠ 0x02#8 → off ≠ 0x03#8 →
          step s = .next (s.withScript rest)

/-- R66: a host read answers the word of its offset and changes no state of OWPE, busy or not. -/
def Obligations.HostReadKeepsState : Prop :=
  ∀ (s : State) (off : BitVec 8) (rest : List Move),
    s.env.script = .read off :: rest →
      step s = .next { s.withScript rest with seen := s.seen ++ [(off, s.hostWord off)] }

/-- R21, R22, R27, R105: which word stands at each offset of the host window. -/
def Obligations.HostWindowMap : Prop :=
  ∀ s : State,
    s.hostWord 0x00#8 = s.cmd ∧ s.hostWord 0x01#8 = s.statusWord ∧ s.hostWord 0x02#8 = s.configWord
      ∧ s.hostWord 0x03#8 = s.timeout ∧ s.hostWord 0x04#8 = s.payload0Word
      ∧ s.hostWord 0x05#8 = s.payload1Word ∧ s.hostWord 0x06#8 = s.resultWord
      ∧ ∀ i : Fin 42,
          s.hostWord (BitVec.ofNat 8 (0x40 + 2 * i.val)) = s.ts[i].sec
            ∧ s.hostWord (BitVec.ofNat 8 (0x41 + 2 * i.val)) = s.ts[i].nsec &&& 0x3FFFFFFF#32

/-- R23, R24, R26, R28, R29, R210: the fields of the host words, and the number of each error. -/
def Obligations.HostWordFields : Prop :=
  ∀ s : State,
    (s.statusWord.getLsbD 0 = true ↔ s.seq ≠ .idle) ∧ s.statusWord.getLsbD 1 = s.done
      ∧ s.statusWord.getLsbD 2 = s.fatal ∧ s.statusWord.getLsbD 3 = s.rej
      ∧ s.statusWord.getLsbD 4 = s.trunc ∧ s.statusWord.getLsbD 5 = s.pvalid
      ∧ s.statusWord.getLsbD 6 = s.rvalid ∧ s.statusWord.getLsbD 7 = s.level
      ∧ s.statusWord.extractLsb' 8 4 =
          (match s.err with
          | .none => 0#4
          | .registerMapFailure => 1#4
          | .captureTimeout => 2#4
          | .insufficientEdges => 3#4
          | .checksumMismatch => 4#4
          | .illegalCommand => 5#4
          | .noPayload => 6#4)
      ∧ s.statusWord.extractLsb' 12 4 = 0#4
      ∧ s.statusWord.extractLsb' 16 6 = s.edgecnt ∧ s.statusWord.extractLsb' 22 10 = 0#10
      ∧ s.configWord.getLsbD 0 = s.strategy ∧ s.configWord.getLsbD 1 = s.signmode
      ∧ s.configWord.extractLsb' 2 30 = 0#30
      ∧ (∀ i : Fin 4, s.payload0Word.extractLsb' (8 * i.val) 8 = s.payload[i.val])
      ∧ s.payload1Word.extractLsb' 0 8 = s.payload[4] ∧ s.payload1Word.extractLsb' 8 24 = 0#24
      ∧ s.resultWord.extractLsb' 0 16 = s.hum ∧ s.resultWord.extractLsb' 16 15 = s.tmag
      ∧ s.resultWord.getLsbD 31 = s.neg

/-! ### A step runs the command -/

/-- R38, R76: a CMD write of a legal word while idle runs the decoded command, and the ENGINE's turn runs
the command in flight; around `exec` the step only takes the move off the script. -/
def Obligations.StepRunsTheCommand : Prop :=
  (∀ (s : State) (w : Word) (rest : List Move) (i : Instr),
      s.env.script = .write 0x00#8 w :: rest → s.seq = .idle → decode w = .ok i →
        step s = exec i (s.withScript rest))
    ∧ (∀ (s : State) (i : Instr), s.env.script = [] → s.inFlight = some i → step s = exec i s)
    ∧ ∀ (s : State) (rest : List Move) (i : Instr),
        s.env.script = .engine :: rest → s.inFlight = some i →
          step s = exec i (s.withScript rest)

/-- R228: an idle OWPE does nothing and keeps all its state. -/
def Obligations.IdleEngineKeepsState : Prop :=
  (∀ s : State, s.env.script = [] → s.seq = .idle → step s = .next s)
    ∧ ∀ (s : State) (rest : List Move),
        s.env.script = .engine :: rest → s.seq = .idle → step s = .next (s.withScript rest)

/-- R36, R96: every one of the nine commands, issued to an idle engine that is not FATAL and whose surface
is reachable where the command touches it, starts: its operands are latched, it stands at its first
micro-step, and it is the command in flight. -/
def Obligations.EveryCommandStarts : Prop :=
  ∀ (i : Instr) (s : State),
    i.wellFormed = true → s.seq = .idle → s.fatal = false →
    (i ≠ .dec → i ≠ .fin → s.env.surfaceOk = true) →
      ∃ t, exec i s = .next t
        ∧ t = { s with
            rej := false, done := false, err := .none, cmd := encode i
            opc := (encode i).extractLsb' 0 4, pinl := (encode i).extractLsb' 8 5
            argl := (encode i).getLsbD 16
            maxe := if i.op = .acq then 42#6 else (encode i).extractLsb' 24 6
            seq := .run i.op 1 0 }
        ∧ t.inFlight = some i

/-- R96, R97, R212: a command issued while FATAL, or to an unreachable surface, ends at acceptance with
code 1; issued while another command is in flight it is rejected. -/
def Obligations.CommandsTurnedAway : Prop :=
  (∀ (i : Instr) (s : State), i.wellFormed = true → s.seq = .idle → s.fatal = true →
      exec i s = .next
        { s with rej := false, done := true, err := .registerMapFailure, cmd := encode i })
    ∧ (∀ (i : Instr) (s : State), i.wellFormed = true → s.seq = .idle → s.fatal = false →
        i ≠ .dec → i ≠ .fin → s.env.surfaceOk = false →
          exec i s = .next
            { s with
              rej := false, done := true, err := .registerMapFailure, cmd := encode i, fatal := true })
    ∧ ∀ (i : Instr) (s : State), s.seq ≠ .idle → s.inFlight ≠ some i →
        exec i s = .next { s with rej := true }

/-! ### The pin controller -/

/-- R121: the seven micro-steps of PULLUP. -/
def Obligations.PullupMicroSteps : Prop :=
  ∀ (p : Pin) (s : State) (k b : Nat),
    s.portReady → s.inFlight = some (.pullup p) → s.seq = .run .pullup k b →
      (k = 1 → exec (.pullup p) s = .next (s.afterWrite s.cfg.idxPud s.cfg.pudUp))
        ∧ (k = 2 ∨ k = 4 → exec (.pullup p) s = .next (s.afterWait s.cfg.tSettleNs))
        ∧ (k = 3 → exec (.pullup p) s = .next (s.afterWrite s.cfg.idxPudclk (1#32 <<< p.toNat)))
        ∧ (k = 5 → exec (.pullup p) s = .next (s.afterWrite s.cfg.idxPud s.cfg.pudOff))
        ∧ (k = 6 → exec (.pullup p) s = .next (s.afterWrite s.cfg.idxPudclk 0#32))
        ∧ (k = 7 → exec (.pullup p) s = .next { s with seq := .idle, done := true })

/-- R121: the whole run of PULLUP, its surface trace and its end, for timebase answers that end the two
waits. That each observation of a wait is a step of its own is the model's step granularity (log
entry 4). -/
def Obligations.PullupRun : Prop :=
  ∀ (p : Pin) (s : State) (a z a' z' : Timestamp) (polls polls' rest : List Timestamp),
    s.undisturbed → s.inFlight = some (.pullup p) → s.seq = .run .pullup 1 0 →
    s.env.times = a :: polls ++ z :: a' :: polls' ++ z' :: rest →
    waitObservations s.cfg.tSettleNs a polls z → waitObservations s.cfg.tSettleNs a' polls' z' →
      ∃ t, runFor (polls.length + polls'.length + 9) s = .next t
        ∧ t.seq = .idle ∧ t.done = true ∧ t.err = s.err ∧ t.tw = a' ∧ t.env = { s.env with times := rest }
        ∧ sameData s t ∧ sameControl s t
        ∧ t.trace = s.trace
            ++ [.write s.cfg.idxPud s.cfg.pudUp] ++ (a :: polls ++ [z]).map Event.now
            ++ [.write s.cfg.idxPudclk (1#32 <<< p.toNat)] ++ (a' :: polls' ++ [z']).map Event.now
            ++ [.write s.cfg.idxPud s.cfg.pudOff, .write s.cfg.idxPudclk 0#32]

/-- R122: the three micro-steps of SETDIR. -/
def Obligations.SetdirMicroSteps : Prop :=
  ∀ (p : Pin) (d : Dir) (s : State) (k b : Nat),
    s.portReady → s.inFlight = some (.setdir p d) → s.seq = .run .setdir k b →
      (k = 1 → exec (.setdir p d) s = .next (s.afterRead (s.cfg.idxFsel + p.toNat / 10)))
        ∧ (k = 2 → d = .output → exec (.setdir p d) s = .next
            (s.afterWrite (s.cfg.idxFsel + p.toNat / 10)
              ((s.tmp &&& ~~~(0b111#32 <<< (3 * (p.toNat % 10))))
                ||| s.cfg.fselOutput.setWidth 32 <<< (3 * (p.toNat % 10)))))
        ∧ (k = 2 → d = .input → exec (.setdir p d) s = .next
            (s.afterWrite (s.cfg.idxFsel + p.toNat / 10)
              ((s.tmp &&& ~~~(0b111#32 <<< (3 * (p.toNat % 10))))
                ||| s.cfg.fselInput.setWidth 32 <<< (3 * (p.toNat % 10)))))
        ∧ (k = 3 → exec (.setdir p d) s = .next { s with seq := .idle, done := true })

/-- R122: the written word equals the read word in the 29 bits outside the pin's field; inside the field
it is the code, whatever was there. -/
def Obligations.DirectionChangesOnlyItsField : Prop :=
  ∀ (old : Word) (p : Pin) (code : BitVec 3) (j : Nat), j < 32 →
    (fselInsert old p code).getLsbD j =
      if 3 * (p.toNat % 10) ≤ j ∧ j < 3 * (p.toNat % 10) + 3 then
        code.getLsbD (j - 3 * (p.toNat % 10))
      else old.getLsbD j

/-- R75, R247: another master's write of the function-select register between SETDIR's read and its write is
lost: the register ends as the read word with the pin's own field replaced. -/
def Obligations.LostUpdate : Prop :=
  ∀ (p : Pin) (d : Dir) (s : State) (v : Word) (rest : List Move),
    s.portReady → s.inFlight = some (.setdir p d) → s.seq = .run .setdir 1 0 →
    s.env.script = .engine :: .master (s.cfg.idxFsel + p.toNat / 10) v :: .engine :: rest →
      ∃ t, runFor 3 s = .next t ∧ t.seq = .run .setdir 3 0
        ∧ t.surf.fsel =
            s.surf.fsel.setIfInBounds (p.toNat / 10)
              (fselInsert (s.readAnswer (s.cfg.idxFsel + p.toNat / 10)) p (dirCode s.cfg d))

/-- R123: the two micro-steps of SETLVL: HIGH to the set register, LOW to the clear register. -/
def Obligations.SetlvlMicroSteps : Prop :=
  ∀ (p : Pin) (l : Level) (s : State) (k b : Nat),
    s.portReady → s.inFlight = some (.setlvl p l) → s.seq = .run .setlvl k b →
      (k = 1 → l = .high →
          exec (.setlvl p l) s = .next (s.afterWrite s.cfg.idxSet (1#32 <<< p.toNat)))
        ∧ (k = 1 → l = .low →
          exec (.setlvl p l) s = .next (s.afterWrite s.cfg.idxClr (1#32 <<< p.toNat)))
        ∧ (k = 2 → exec (.setlvl p l) s = .next { s with seq := .idle, done := true })

/-- R124: the three micro-steps of RDLVL. -/
def Obligations.RdlvlMicroSteps : Prop :=
  ∀ (p : Pin) (s : State) (k b : Nat),
    s.portReady → s.inFlight = some (.rdlvl p) → s.seq = .run .rdlvl k b →
      (k = 1 → exec (.rdlvl p) s = .next (s.afterRead s.cfg.idxLev))
        ∧ (k = 2 → exec (.rdlvl p) s = .next
            { s with level := s.tmp.getLsbD p.toNat, seq := .run .rdlvl 3 0 })
        ∧ (k = 3 → exec (.rdlvl p) s = .next { s with seq := .idle, done := true })

/-- R122, R123, R124: the whole runs of SETDIR, SETLVL and RDLVL. -/
def Obligations.PinCommandRuns : Prop :=
  ∀ (p : Pin) (s : State), s.undisturbed →
    (∀ d, s.inFlight = some (.setdir p d) → s.seq = .run .setdir 1 0 →
      runFor 3 s = .next
        { s with
          tmp := s.readAnswer (s.cfg.idxFsel + p.toNat / 10)
          env := s.envAfterRead
          surf := s.surf.absorb s.cfg (s.cfg.idxFsel + p.toNat / 10)
            (fselInsert (s.readAnswer (s.cfg.idxFsel + p.toNat / 10)) p (dirCode s.cfg d))
          trace := s.trace ++
            [.read (s.cfg.idxFsel + p.toNat / 10) (s.readAnswer (s.cfg.idxFsel + p.toNat / 10)),
              .write (s.cfg.idxFsel + p.toNat / 10)
                (fselInsert (s.readAnswer (s.cfg.idxFsel + p.toNat / 10)) p (dirCode s.cfg d))]
          seq := .idle
          done := true })
    ∧ (∀ l, s.inFlight = some (.setlvl p l) → s.seq = .run .setlvl 1 0 →
      runFor 2 s = .next
        { s with
          surf := s.surf.absorb s.cfg (if l = .high then s.cfg.idxSet else s.cfg.idxClr)
            (1#32 <<< p.toNat)
          trace := s.trace ++
            [.write (if l = .high then s.cfg.idxSet else s.cfg.idxClr) (1#32 <<< p.toNat)]
          seq := .idle
          done := true })
    ∧ (s.inFlight = some (.rdlvl p) → s.seq = .run .rdlvl 1 0 →
      runFor 3 s = .next
        { s with
          tmp := s.readAnswer s.cfg.idxLev
          level := (s.readAnswer s.cfg.idxLev).getLsbD p.toNat
          env := s.envAfterRead
          trace := s.trace ++ [.read s.cfg.idxLev (s.readAnswer s.cfg.idxLev)]
          seq := .idle
          done := true })

/-- R120, R125: what the four pin commands leave unchanged, and which surface registers each changes. That
SETLVL and PULLUP leave other pins' latch bits and pulls alone rests on R71's clause that zero bits do
nothing (PRESUMED, unsafe, log entry 11), for the pull also on what a clock write latches (DEDUCED, log
entry 18). -/
def Obligations.PinCommandsFrame : Prop :=
  ∀ (p : Pin) (i : Instr) (s t : State),
    (i = .pullup p ∨ (∃ d, i = .setdir p d) ∨ (∃ l, i = .setlvl p l) ∨ i = .rdlvl p) →
    s.cfg.indicesDistinct = true → s.inFlight = some i → exec i s = .next t →
      sameData s t ∧ sameControl s t ∧ sameInputs s t ∧ t.err = s.err ∧ t.prev = s.prev ∧ t.t0 = s.t0
        ∧ (i ≠ .rdlvl p → t.level = s.level) ∧ (i ≠ .pullup p → t.tw = s.tw)
        ∧ (i = .pullup p → t.tmp = s.tmp ∧ t.surf.fsel = s.surf.fsel ∧ t.surf.latch = s.surf.latch
            ∧ t.surf.line = s.surf.line ∧ t.surf.eds = s.surf.eds
            ∧ ∀ q : Fin 32, q.val ≠ p.toNat → t.surf.pull[q] = s.surf.pull[q])
        ∧ (∀ d, i = .setdir p d → t.surf.latch = s.surf.latch ∧ t.surf.line = s.surf.line
            ∧ t.surf.eds = s.surf.eds ∧ t.surf.pud = s.surf.pud ∧ t.surf.pudclk = s.surf.pudclk
            ∧ t.surf.pull = s.surf.pull
            ∧ ∀ r : Fin 4, r.val ≠ p.toNat / 10 → t.surf.fsel[r] = s.surf.fsel[r])
        ∧ (∀ l, i = .setlvl p l → t.tmp = s.tmp ∧ t.surf.fsel = s.surf.fsel
            ∧ t.surf.line = s.surf.line ∧ t.surf.eds = s.surf.eds ∧ t.surf.pud = s.surf.pud
            ∧ t.surf.pudclk = s.surf.pudclk ∧ t.surf.pull = s.surf.pull
            ∧ ∀ j, j ≠ p.toNat → t.surf.latch.getLsbD j = s.surf.latch.getLsbD j)
        ∧ (i = .rdlvl p → t.surf = s.surf)

/-! ### The signal initiator -/

/-- R140, R200: micro-steps 1 to 14 of INIT, which are ACQ's too, and INIT's end. -/
def Obligations.InitMicroSteps : Prop :=
  ∀ (p : Pin) (i : Instr) (s : State) (k b : Nat),
    (i = .init p ∨ i = .acq p) → s.portReady → s.inFlight = some i → s.seq = .run i.op k b →
      (k = 1 → exec i s = .next (s.afterWrite s.cfg.idxPud s.cfg.pudUp))
        ∧ (k = 2 ∨ k = 4 → exec i s = .next (s.afterWait s.cfg.tSettleNs))
        ∧ (k = 3 → exec i s = .next (s.afterWrite s.cfg.idxPudclk (1#32 <<< p.toNat)))
        ∧ (k = 5 → exec i s = .next (s.afterWrite s.cfg.idxPud s.cfg.pudOff))
        ∧ (k = 6 → exec i s = .next (s.afterWrite s.cfg.idxPudclk 0#32))
        ∧ (k = 7 ∨ k = 12 → exec i s = .next (s.afterWrite s.cfg.idxSet (1#32 <<< p.toNat)))
        ∧ (k = 8 ∨ k = 13 → exec i s = .next (s.afterRead (s.cfg.idxFsel + p.toNat / 10)))
        ∧ (k = 9 → exec i s = .next
            (s.afterWrite (s.cfg.idxFsel + p.toNat / 10)
              ((s.tmp &&& ~~~(0b111#32 <<< (3 * (p.toNat % 10))))
                ||| s.cfg.fselOutput.setWidth 32 <<< (3 * (p.toNat % 10)))))
        ∧ (k = 10 → exec i s = .next (s.afterWrite s.cfg.idxClr (1#32 <<< p.toNat)))
        ∧ (k = 11 → exec i s = .next (s.afterWait s.cfg.tHoldLowNs))
        ∧ (k = 14 → exec i s = .next
            (s.afterWrite (s.cfg.idxFsel + p.toNat / 10)
              ((s.tmp &&& ~~~(0b111#32 <<< (3 * (p.toNat % 10))))
                ||| s.cfg.fselInput.setWidth 32 <<< (3 * (p.toNat % 10)))))
        ∧ (k = 15 → i = .init p → exec i s = .next { s with seq := .idle, done := true })

/-- R140: the whole run of INIT and its surface trace, for answers that end the three waits. The trace is
that of R140's body, nine writes and two reads; R140's prose counts eleven writes and R142 thirteen
accesses. That the body is followed is the model's reading (DEDUCED, unsafe, log entry 9). That each
observation of a wait is a step of its own is the model's step granularity (log entry 4). -/
def Obligations.InitRun : Prop :=
  ∀ (p : Pin) (s : State) (a1 z1 a2 z2 a3 z3 : Timestamp) (l1 l2 l3 rest : List Timestamp)
    (v1 v2 : Word) (reads : List Word),
    s.undisturbed → s.inFlight = some (.init p) → s.seq = .run .init 1 0 →
    s.env.times = a1 :: l1 ++ z1 :: a2 :: l2 ++ z2 :: a3 :: l3 ++ z3 :: rest →
    s.env.reads = v1 :: v2 :: reads →
    waitObservations s.cfg.tSettleNs a1 l1 z1 → waitObservations s.cfg.tSettleNs a2 l2 z2 →
    waitObservations s.cfg.tHoldLowNs a3 l3 z3 →
      ∃ t, runFor (l1.length + l2.length + l3.length + 18) s = .next t
        ∧ t.seq = .idle ∧ t.done = true ∧ t.err = s.err ∧ t.tmp = v2 ∧ t.tw = a3
        ∧ t.env = { s.env with times := rest, reads := reads } ∧ sameData s t ∧ sameControl s t
        ∧ t.trace = s.trace
            ++ [.write s.cfg.idxPud s.cfg.pudUp] ++ (a1 :: l1 ++ [z1]).map Event.now
            ++ [.write s.cfg.idxPudclk (1#32 <<< p.toNat)] ++ (a2 :: l2 ++ [z2]).map Event.now
            ++ [.write s.cfg.idxPud s.cfg.pudOff, .write s.cfg.idxPudclk 0#32,
              .write s.cfg.idxSet (1#32 <<< p.toNat), .read (s.cfg.idxFsel + p.toNat / 10) v1,
              .write (s.cfg.idxFsel + p.toNat / 10) (fselInsert v1 p s.cfg.fselOutput),
              .write s.cfg.idxClr (1#32 <<< p.toNat)] ++ (a3 :: l3 ++ [z3]).map Event.now
            ++ [.write s.cfg.idxSet (1#32 <<< p.toNat), .read (s.cfg.idxFsel + p.toNat / 10) v2,
              .write (s.cfg.idxFsel + p.toNat / 10) (fselInsert v2 p s.cfg.fselInput)]

/-- R71, R125, R140: what INIT leaves unchanged. That other pins' latch bits and pulls are left alone rests
on R71's clause that zero bits do nothing (PRESUMED, unsafe, log entry 11), for the pull also on what a
clock write latches (DEDUCED, log entry 18). -/
def Obligations.InitFrame : Prop :=
  ∀ (p : Pin) (s t : State),
    s.cfg.indicesDistinct = true → s.inFlight = some (.init p) → exec (.init p) s = .next t →
      sameData s t ∧ sameControl s t ∧ sameInputs s t ∧ t.err = s.err ∧ t.level = s.level
        ∧ t.prev = s.prev ∧ t.t0 = s.t0 ∧ t.surf.line = s.surf.line ∧ t.surf.eds = s.surf.eds
        ∧ (∀ q : Fin 32, q.val ≠ p.toNat → t.surf.pull[q] = s.surf.pull[q])
        ∧ (∀ r : Fin 4, r.val ≠ p.toNat / 10 → t.surf.fsel[r] = s.surf.fsel[r])
        ∧ ∀ j, j ≠ p.toNat → t.surf.latch.getLsbD j = s.surf.latch.getLsbD j

/-- R141, R218: INIT and ACQ keep the order of the start pulse: the pin's latch is high while it becomes an
output and again while it is given back, it is an output in between, and an input from micro-step 15 on.
The premises are the machine's invariant, that the seven register roles are seven registers, and exclusive
use: no other master writes the surface in this step (R246). The pin's latch and code are those of the
surface the model holds (log entry 11). -/
def Obligations.StartPulseOrderKept : Prop :=
  ∀ s t : State,
    s.Inv → s.cfg.indicesDistinct = true → s.pinOk →
    (∀ idx v, s.env.script.head? ≠ some (.master idx v)) → step s = .next t → t.pinOk

/-! ### The edge capture loop -/

/-- R150, R153, R154, R200: steps 1 to 5, 7 and 8 of CAPT, which are ACQ's 15 to 19, 21 and 22. -/
def Obligations.CaptureMicroSteps : Prop :=
  ∀ (p : Pin) (n : BitVec 6) (i : Instr) (base : Nat) (s : State) (j b : Nat),
    ((i = .capt p n ∧ base = 0) ∨ (i = .acq p ∧ n = 42#6 ∧ base = 14)) →
    s.inFlight = some i → s.seq = .run i.op (base + j) b →
      (j = 1 → exec i s = .next
          { s with
            edgecnt := 0#6, trunc := false, pvalid := false, payload := Vector.replicate 5 0#8
            rvalid := false, hum := 0#16, tmag := 0#15, neg := false, seq := s.seq.advance })
        ∧ (j = 2 → exec i s = .next { s with prev := true, seq := s.seq.advance })
        ∧ (j = 3 → exec i s = .next
            { s with
              t0 := s.nowAnswer, env := s.envAfterNow, trace := s.trace ++ [.now s.nowAnswer]
              seq := s.seq.advance })
        ∧ (j = 4 → s.edgecnt = n → i = .capt p n →
            exec i s = .next { s with seq := .idle, done := true })
        ∧ (j = 4 → s.edgecnt = n → i = .acq p → exec i s = .next { s with seq := .run .acq 23 0 })
        ∧ (j = 4 → s.edgecnt ≠ n → exec i s = .next { s with seq := s.seq.advance })
        ∧ (j = 5 → (s.timeout.toNat : Int) * 1000 < elapsedNs s.t0 s.nowAnswer →
            exec i s = .next
              { s with
                env := s.envAfterNow, trace := s.trace ++ [.now s.nowAnswer]
                trunc := true, err := .captureTimeout, seq := .idle, done := true })
        ∧ (j = 5 → elapsedNs s.t0 s.nowAnswer ≤ (s.timeout.toNat : Int) * 1000 →
            exec i s = .next
              { s with
                env := s.envAfterNow, trace := s.trace ++ [.now s.nowAnswer], seq := s.seq.advance })
        ∧ (j = 7 → s.cfg.tPollNs = 0 → exec i s = .next { s with seq := s.seq.advance })
        ∧ (j = 7 → 0 < s.cfg.tPollNs → exec i s = .next (s.afterWait s.cfg.tPollNs))
        ∧ (j = 8 → exec i s = .next { s with seq := .run i.op (base + 4) 0 })

/-- R151: the polling body: one read, an edge where the previous sample was high and this one is low, the
timestamp taken after the sample, PREV. Only the clause that records needs a free entry of TS. -/
def Obligations.PollingBodySteps : Prop :=
  ∀ (p : Pin) (n : BitVec 6) (i : Instr) (base : Nat) (s : State) (b : Nat),
    ((i = .capt p n ∧ base = 0) ∨ (i = .acq p ∧ n = 42#6 ∧ base = 14)) →
    s.portReady → s.strategy = false →
    s.inFlight = some i → s.seq = .run i.op (base + 6) b →
      (b = 0 → exec i s = .next
          { s with
            tmp := s.readAnswer s.cfg.idxLev, env := s.envAfterRead
            trace := s.trace ++ [.read s.cfg.idxLev (s.readAnswer s.cfg.idxLev)]
            seq := .run i.op (base + 6) 1 })
        ∧ (b = 1 → s.prev = true → s.tmp.getLsbD p.toNat = false → s.edgecnt.toNat < 42 → exec i s = .next
            { s with
              ts := s.ts.setIfInBounds s.edgecnt.toNat s.nowAnswer, edgecnt := s.edgecnt + 1#6
              env := s.envAfterNow, trace := s.trace ++ [.now s.nowAnswer]
              seq := .run i.op (base + 6) 2 })
        ∧ (b = 1 → s.prev = false ∨ s.tmp.getLsbD p.toNat = true → exec i s = .next
            { s with seq := .run i.op (base + 6) 2 })
        ∧ (b = 2 → exec i s = .next
            { s with prev := s.tmp.getLsbD p.toNat, seq := .run i.op (base + 7) 0 })

/-- R152: the event-flag body: one read; on a set flag the clearing one-hot write first, then the
timestamp. Only the clause that records needs a free entry of TS. -/
def Obligations.EventFlagBodySteps : Prop :=
  ∀ (p : Pin) (n : BitVec 6) (i : Instr) (base : Nat) (s : State) (b : Nat),
    ((i = .capt p n ∧ base = 0) ∨ (i = .acq p ∧ n = 42#6 ∧ base = 14)) →
    s.portReady → s.strategy = true →
    s.inFlight = some i → s.seq = .run i.op (base + 6) b →
      (b = 0 → exec i s = .next
          { s with
            tmp := s.readAnswer s.cfg.idxEds, env := s.envAfterRead
            trace := s.trace ++ [.read s.cfg.idxEds (s.readAnswer s.cfg.idxEds)]
            seq := .run i.op (base + 6) 1 })
        ∧ (b = 1 → s.tmp.getLsbD p.toNat = true → exec i s = .next
            { s with
              surf := s.surf.absorb s.cfg s.cfg.idxEds (1#32 <<< p.toNat)
              trace := s.trace ++ [.write s.cfg.idxEds (1#32 <<< p.toNat)]
              seq := .run i.op (base + 6) 2 })
        ∧ (b = 1 → s.tmp.getLsbD p.toNat = false → exec i s = .next
            { s with seq := .run i.op (base + 7) 0 })
        ∧ (b = 2 → s.edgecnt.toNat < 42 → exec i s = .next
            { s with
              ts := s.ts.setIfInBounds s.edgecnt.toNat s.nowAnswer, edgecnt := s.edgecnt + 1#6
              env := s.envAfterNow, trace := s.trace ++ [.now s.nowAnswer]
              seq := .run i.op (base + 7) 0 })

/-- R156: once every answer of the timebase exceeds the deadline, a capture with no inter-sample delay
(T_POLL_NS = 0, so no Wait in the iteration) leaves its loop within one iteration. That an iteration is at
most seven steps of the ENGINE is the model's own step granularity (DESIGN CHOICE, log entry 4). -/
def Obligations.CaptureEndsWithinOneIteration : Prop :=
  ∀ (s : State) (j : Nat),
    s.Inv → s.undisturbed → s.seq.captureAt = some j → 4 ≤ j → s.cfg.tPollNs = 0 →
    2 ≤ s.env.times.length →
    (∀ t ∈ s.env.times, (s.timeout.toNat : Int) * 1000 < elapsedNs s.t0 t) →
      ∃ n t, n ≤ 7 ∧ runFor n s = .next t ∧ t.seq.captureAt = none
        ∧ ((t.trunc = true ∧ t.err = .captureTimeout) ∨ t.edgecnt = s.maxe)

/-- R157: whatever happens, as long as the timebase answers from a well-formed and monotonic script, the
recorded edges stay well-formed, in order and not before T0. -/
def Obligations.RecordedTimesStayOrdered : Prop :=
  ∀ s t : State, s.Inv → s.timeOk → s.env.times ≠ [] → step s = .next t → t.timeOk

/-- R71, R150, R152: what CAPT leaves unchanged. That the other pins' event flags stay rests on R71's clause
that zero bits do nothing (PRESUMED, unsafe, log entry 11). -/
def Obligations.CaptFrame : Prop :=
  ∀ (p : Pin) (n : BitVec 6) (s t : State),
    s.cfg.indicesDistinct = true → s.inFlight = some (.capt p n) → exec (.capt p n) s = .next t →
      sameControl s t ∧ sameInputs s t ∧ t.level = s.level
        ∧ (∀ i : Fin 42, i.val ≠ s.edgecnt.toNat → t.ts[i] = s.ts[i])
        ∧ t.surf.fsel = s.surf.fsel ∧ t.surf.latch = s.surf.latch ∧ t.surf.line = s.surf.line
        ∧ t.surf.pud = s.surf.pud ∧ t.surf.pudclk = s.surf.pudclk ∧ t.surf.pull = s.surf.pull
        ∧ ∀ j, j ≠ p.toNat → t.surf.eds.getLsbD j = s.surf.eds.getLsbD j

/-! ### The frame decoder -/

/-- R170, R200: with 42 edges DEC and the decode stage of ACQ deliver the decoded payload in one step. -/
def Obligations.DecodeDelivers : Prop :=
  ∀ (s : State) (b : Nat), s.edgecnt = 42#6 →
    (s.inFlight = some .dec → s.seq = .run .dec 1 b →
      exec .dec s = .next
        { s with
          pvalid := true, payload := frameDecode s.cfg.threshUs s.ts
          rvalid := false, hum := 0#16, tmag := 0#15, neg := false, seq := .idle, done := true })
    ∧ ∀ p, s.inFlight = some (.acq p) → s.seq = .run .acq 23 b →
      exec (.acq p) s = .next
        { s with
          pvalid := true, payload := frameDecode s.cfg.threshUs s.ts
          rvalid := false, hum := 0#16, tmag := 0#15, neg := false, seq := .run .acq 24 0 }

/-- R174: with fewer than 42 edges DEC fails outright, with no payload and no Reading; and the edge count
never exceeds 42. -/
def Obligations.DecodeNeedsAllEdges : Prop :=
  (∀ (s : State) (b : Nat), s.edgecnt.toNat < 42 → s.inFlight = some .dec → s.seq = .run .dec 1 b →
    exec .dec s = .next
      { s with
        pvalid := false, payload := Vector.replicate 5 0#8
        rvalid := false, hum := 0#16, tmag := 0#15, neg := false
        err := .insufficientEdges, seq := .idle, done := true })
    ∧ ∀ s t : State, s.Inv → step s = .next t → t.edgecnt.toNat ≤ 42

/-- R171: after the borrow the interval's nanoseconds lie between 0 and 999 999 999 and the pair is the
elapsed time. -/
def Obligations.IntervalNormalised : Prop :=
  ∀ lo hi : Timestamp, timeWellFormed lo → timeWellFormed hi →
    0 ≤ (interval lo hi).2 ∧ (interval lo hi).2 ≤ 999999999
      ∧ (interval lo hi).1 * 1000000000 + (interval lo hi).2 = elapsedNs lo hi

/-- R172: for a non-negative interval the bit is 1 exactly from 101 000 ns up; a negative second count does
not make a 1 by itself. -/
def Obligations.IntervalThreshold : Prop :=
  ∀ lo hi : Timestamp, timeWellFormed lo → timeWellFormed hi →
    (0 ≤ elapsedNs lo hi → (intervalBit 100 lo hi = true ↔ 101000 ≤ elapsedNs lo hi))
      ∧ (elapsedNs lo hi < 0 →
          (intervalBit 100 lo hi = true ↔ 100 < (interval lo hi).2 / 1000))

/-- R101, R103, R173: bit `b` of the frame, from the interval ending at edge `b + 2`, stands in bit
`7 - (b mod 8)` of payload byte `4 - (b div 8)`. -/
def Obligations.FramePacking : Prop :=
  ∀ (thresh : Nat) (e : Vector Timestamp 42) (b : Fin 40),
    (frameDecode thresh e)[4 - b.val / 8].getLsbD (7 - b.val % 8) =
      intervalBit thresh e[b.val + 1] e[b.val + 2]

/-- R176: `Decode` does not depend on the first edge. -/
def Obligations.DecodeIgnoresFirstEdge : Prop :=
  ∀ (thresh : Nat) (e f : Vector Timestamp 42),
    (∀ i : Fin 42, 1 ≤ i.val → e[i] = f[i]) → frameDecode thresh e = frameDecode thresh f

/-- 95_test_vectors.md S3: an edge sequence with 70 000 ns per 0 and 120 000 ns per 1 of a payload decodes
to that payload. -/
def Obligations.SynthesisedFrameDecodes : Prop :=
  ∀ (payload : Vector Byte 5) (e : Vector Timestamp 42),
    (∀ i : Fin 42, timeWellFormed e[i]) →
    (∀ b : Fin 40, elapsedNs e[b.val + 1] e[b.val + 2] =
      if payload[4 - b.val / 8].getLsbD (7 - b.val % 8) = true then 120000 else 70000) →
      frameDecode 100 e = payload

/-! ### The checksum validator -/

/-- R185, R186, R187, R188, R189: `finalize` in numbers. -/
def Obligations.FinalizeExactly : Prop :=
  ∀ (b : Vector Byte 5) (mode : Bool),
    (finalize b mode = none ↔
        b[0].toNat ≠ (b[1].toNat + b[2].toNat + b[3].toNat + b[4].toNat) % 256)
      ∧ ∀ r, finalize b mode = some r →
          r.hum.toNat = b[4].toNat * 256 + b[3].toNat
            ∧ r.tmag.toNat = b[2].toNat % 128 * 256 + b[1].toNat
            ∧ (mode = false → (r.neg = true ↔ 128 ≤ b[2].toNat))
            ∧ (mode = true → (r.neg = true ↔ 256 ≤ r.tmag.toNat))

/-- R185, R190: with a payload whose checksum matches, FIN and the finalize stage of ACQ deliver the
Reading, all three fields in one step. -/
def Obligations.FinalizeDelivers : Prop :=
  ∀ (i : Instr) (s : State) (k b : Nat) (r : Reading),
    ((i = .fin ∧ k = 1) ∨ ((∃ p, i = .acq p) ∧ k = 24)) →
    s.inFlight = some i → s.seq = .run i.op k b → s.pvalid = true →
    finalize s.payload s.signmode = some r →
      exec i s = .next
        { s with
          rvalid := true, hum := r.hum, tmag := r.tmag, neg := r.neg, seq := .idle, done := true }

/-- R186, R190, R201: without a payload FIN fails with NoPayload and tests no checksum; with a mismatch FIN
and ACQ fail with ChecksumMismatch and keep the rejected payload; neither leaves a Reading. -/
def Obligations.FinalizeFails : Prop :=
  ∀ (s : State) (b : Nat),
    (s.inFlight = some .fin → s.seq = .run .fin 1 b → s.pvalid = false →
      exec .fin s = .next
        { s with
          rvalid := false, hum := 0#16, tmag := 0#15, neg := false
          err := .noPayload, seq := .idle, done := true })
    ∧ ∀ (i : Instr) (k : Nat),
      ((i = .fin ∧ k = 1) ∨ ((∃ p, i = .acq p) ∧ k = 24)) →
      s.inFlight = some i → s.seq = .run i.op k b → s.pvalid = true →
      s.payload[0].toNat ≠
        (s.payload[1].toNat + s.payload[2].toNat + s.payload[3].toNat + s.payload[4].toNat) % 256 →
        exec i s = .next
          { s with
            rvalid := false, hum := 0#16, tmag := 0#15, neg := false
            err := .checksumMismatch, seq := .idle, done := true }

/-- R170, R185: what DEC and FIN leave unchanged: everything but their own data, DONE, ERR and SEQ. -/
def Obligations.DecodeAndFinalizeFrame : Prop :=
  ∀ (i : Instr) (s t : State), (i = .dec ∨ i = .fin) → s.inFlight = some i → exec i s = .next t →
    sameControl s t ∧ t.env = s.env ∧ t.surf = s.surf ∧ t.trace = s.trace ∧ t.ts = s.ts
      ∧ t.edgecnt = s.edgecnt ∧ t.trunc = s.trunc ∧ t.level = s.level ∧ t.prev = s.prev
      ∧ t.t0 = s.t0 ∧ t.tw = s.tw ∧ t.tmp = s.tmp
      ∧ (i = .fin → t.payload = s.payload ∧ t.pvalid = s.pvalid)

/-- R193, R194: the integer relation for hundredths of a degree Fahrenheit is the exact one. -/
def Obligations.FahrenheitRelation : Prop :=
  ∀ r : Reading, (r.fahrenheitHundredths : Rat) = 100 * r.fahrenheit

/-! ### The composite acquisition -/

/-- R200, R201, R202: each micro-step of ACQ is the micro-step of the stage's own command, at the position
ACQ has for it; where the stage's command completes ACQ goes on, and where it fails ACQ ends as it does. -/
def Obligations.AcqRunsTheStages : Prop :=
  ∀ (p : Pin) (s t : State) (k b : Nat), s.inFlight = some (.acq p) → s.maxe = 42#6 →
    (1 ≤ k → k ≤ 14 → s.seq = .run .acq k b →
      exec (.init p) { s with seq := .run .init k b } = .next t →
        exec (.acq p) s = .next { t with seq := t.seq.inAcq 0 })
    ∧ (1 ≤ k → k ≤ 8 → s.seq = .run .acq (k + 14) b →
      exec (.capt p 42#6) { s with seq := .run .capt k b } = .next t →
        exec (.acq p) s = .next
          (if k = 4 ∧ s.edgecnt = 42#6 then { s with seq := .run .acq 23 0 }
          else { t with seq := t.seq.inAcq 14 }))
    ∧ (s.seq = .run .acq 23 b → s.edgecnt = 42#6 →
      exec .dec { s with seq := .run .dec 1 b } = .next t →
        exec (.acq p) s = .next { t with seq := .run .acq 24 0, done := s.done })
    ∧ (s.seq = .run .acq 24 b → exec .fin { s with seq := .run .fin 1 b } = .next t →
        exec (.acq p) s = .next t)

/-- R200, R201: with 42 edges captured, three steps end ACQ: with the Reading of the decoded payload where
its checksum matches, else with ChecksumMismatch, the rejected payload readable and no Reading. -/
def Obligations.AcqDeliversReading : Prop :=
  ∀ (p : Pin) (s : State) (b : Nat),
    s.undisturbed → s.inFlight = some (.acq p) → s.seq = .run .acq 18 b → s.edgecnt = 42#6 →
      (∀ r, finalize (frameDecode s.cfg.threshUs s.ts) s.signmode = some r →
        runFor 3 s = .next
          { s with
            pvalid := true, payload := frameDecode s.cfg.threshUs s.ts
            rvalid := true, hum := r.hum, tmag := r.tmag, neg := r.neg, seq := .idle, done := true })
      ∧ (finalize (frameDecode s.cfg.threshUs s.ts) s.signmode = none →
        runFor 3 s = .next
          { s with
            pvalid := true, payload := frameDecode s.cfg.threshUs s.ts
            rvalid := false, hum := 0#16, tmag := 0#15, neg := false
            err := .checksumMismatch, seq := .idle, done := true })

/-- R71, R125, R152, R200: what ACQ leaves unchanged: it writes what its four stages write. That other pins'
latch bits, pulls and event flags are left alone rests on R71's clause that zero bits do nothing (PRESUMED,
unsafe, log entry 11), for the pull also on what a clock write latches (DEDUCED, log entry 18). -/
def Obligations.AcqFrame : Prop :=
  ∀ (p : Pin) (s t : State),
    s.cfg.indicesDistinct = true → s.inFlight = some (.acq p) → exec (.acq p) s = .next t →
      sameControl s t ∧ sameInputs s t ∧ t.level = s.level
        ∧ (∀ i : Fin 42, i.val ≠ s.edgecnt.toNat → t.ts[i] = s.ts[i])
        ∧ t.surf.line = s.surf.line
        ∧ (∀ q : Fin 32, q.val ≠ p.toNat → t.surf.pull[q] = s.surf.pull[q])
        ∧ (∀ r : Fin 4, r.val ≠ p.toNat / 10 → t.surf.fsel[r] = s.surf.fsel[r])
        ∧ (∀ j, j ≠ p.toNat → t.surf.latch.getLsbD j = s.surf.latch.getLsbD j)
        ∧ ∀ j, j ≠ p.toNat → t.surf.eds.getLsbD j = s.surf.eds.getLsbD j

/-! ### The whole machine -/

/-- R42: the machine right after reset meets every invariant stated here. That its parameters are legal and
its register roles distinct is about the default indices of R8, which are general knowledge (PRESUMED, log
entry 2), and about the range R7 gives the open TB_RES_NS (log entry 3); its surface and environment are the
model's (log entries 10 and 11). -/
def Obligations.ResetMeetsInvariants : Prop :=
  State.reset.Inv ∧ State.reset.pinOk ∧ State.reset.timeOk ∧ State.reset.cfg.legal = true
    ∧ State.reset.cfg.indicesDistinct = true

/-- R24, R31, R33, R36, R38, R157, R210: every step keeps the machine's invariant. -/
def Obligations.StepKeepsInvariant : Prop :=
  ∀ s t : State, s.Inv → step s = .next t → t.Inv

/-- R15, R69: from a state with the invariant no step faults and none is refused. -/
def Obligations.InvariantNeverStops : Prop :=
  ∀ s : State, s.Inv → ∃ t, step s = .next t

/-- R62, R63, R64, R73, R79: every access is to an index of OWPE's map, and a step records at most one event,
at the end of the history. That a step makes no more than one access or observation is the model's own step
granularity (DESIGN CHOICE, log entry 4): R14 and R38 make a Wait and the capture body one micro-step. -/
def Obligations.AccessesStayInTheMap : Prop :=
  ∀ s t : State, step s = .next t →
    ∃ events : List Event, t.trace = s.trace ++ events ∧ events.length ≤ 1
      ∧ ∀ e ∈ events, usesOnlyMapped s.cfg e

/-- R25, R212: FATAL stays until reset, and while it is set an idle engine stays idle and makes no access. -/
def Obligations.FatalUntilReset : Prop :=
  ∀ s t : State, s.fatal = true → s.env.script.head? ≠ some .reset → step s = .next t →
    t.fatal = true ∧ (s.seq = .idle → t.seq = .idle ∧ t.trace = s.trace)

/-- R36, R76: while a command is in flight nothing but reset changes its operands, CMD, CONFIG or TIMEOUT,
and the command stays the same until it ends. -/
def Obligations.OperandsFixedWhileBusy : Prop :=
  ∀ s t : State, s.seq ≠ .idle → s.env.script.head? ≠ some .reset → step s = .next t →
    t.cmd = s.cmd ∧ t.opc = s.opc ∧ t.pinl = s.pinl ∧ t.argl = s.argl ∧ t.maxe = s.maxe
      ∧ t.strategy = s.strategy ∧ t.signmode = s.signmode ∧ t.timeout = s.timeout
      ∧ (t.seq = .idle ∨ t.inFlight = s.inFlight)

/-- R40: no step changes the parameters of the instantiation. -/
def Obligations.ParametersNeverChange : Prop :=
  ∀ s t : State, step s = .next t → t.cfg = s.cfg

/-- R43: the host's reads and writes write no data register and make no surface access. -/
def Obligations.HostWritesNoData : Prop :=
  ∀ (s t : State) (m : Move) (rest : List Move),
    s.env.script = m :: rest →
    ((∃ off, m = .read off) ∨ (∃ off v, m = .write off v) ∨ m = .poll) → step s = .next t →
      sameData s t ∧ t.trace = s.trace ∧ t.surf = s.surf ∧ t.level = s.level ∧ t.prev = s.prev
        ∧ t.t0 = s.t0 ∧ t.tw = s.tw ∧ t.tmp = s.tmp

/-- R7, R27, R42, R240: the reset event gives every piece of state its reset value, whatever was in progress.
That TIMEOUT takes the parameter TIMEOUT_RESET_US, R42's 2 000 000 where that is left at its default, is the
model's reading (DEDUCED, log entry 19). -/
def Obligations.ResetEventValues : Prop :=
  ∀ (s : State) (rest : List Move), s.env.script = .reset :: rest →
    ∃ t, step s = .next t
      ∧ t.seq = .idle ∧ t.cmd = 0#32 ∧ t.done = false ∧ t.fatal = false ∧ t.rej = false
      ∧ t.trunc = false ∧ t.pvalid = false ∧ t.rvalid = false ∧ t.level = false ∧ t.err = .none
      ∧ t.edgecnt = 0#6 ∧ t.strategy = false ∧ t.signmode = false ∧ t.timeout = s.cfg.timeoutResetUs
      ∧ (s.cfg.timeoutResetUs = ({} : Params).timeoutResetUs → t.timeout = 2000000#32)
      ∧ (∀ i : Fin 5, t.payload[i] = 0#8) ∧ t.hum = 0#16 ∧ t.tmag = 0#15 ∧ t.neg = false
      ∧ (∀ i : Fin 42, t.ts[i] = ⟨0#32, 0#32⟩) ∧ t.opc = 0#4 ∧ t.pinl = 0#5 ∧ t.argl = false
      ∧ t.maxe = 0#6 ∧ t.prev = false ∧ t.tmp = 0#32 ∧ t.t0 = ⟨0#32, 0#32⟩ ∧ t.tw = ⟨0#32, 0#32⟩
      ∧ t.statusWord = 0#32 ∧ t.trace = s.trace

/-- R240, R241, R242: reset makes no access and no observation and leaves the surface as the last
micro-step left it, but for the pull configuration of a pin whose latch sequence it cuts short; the pin
of an INIT cut short between micro-steps 10 and 12 stays an output driven low. -/
def Obligations.ResetLeavesTheSurface : Prop :=
  ∀ (s t : State) (rest : List Move), s.env.script = .reset :: rest → step s = .next t →
    t.trace = s.trace ∧ t.env.times = s.env.times ∧ t.env.reads = s.env.reads
      ∧ t.surf.fsel = s.surf.fsel ∧ t.surf.latch = s.surf.latch ∧ t.surf.line = s.surf.line
      ∧ t.surf.eds = s.surf.eds ∧ t.surf.pud = s.surf.pud ∧ t.surf.pudclk = s.surf.pudclk
      ∧ (∀ q : Fin 32, q.val ≠ s.pinl.toNat → t.surf.pull[q] = s.surf.pull[q])
      ∧ (s.inPullSequence = false → t.surf.pull = s.surf.pull)
      ∧ ∀ k b, s.pinOk → s.seq = .run .init k b → (k = 11 ∨ k = 12) →
          t.surf.code s.pinl = s.cfg.fselOutput ∧ t.surf.latch.getLsbD s.pinl.toNat = false

/-- R224, U12: a surface access that does not complete leaves the engine where it is, with BUSY = 1: every
access of every command that makes one, the capture body's among them. That the hanging is an input of the
environment is the model's choice (log entry 14). -/
def Obligations.HangingAccessStaysPut : Prop :=
  ∀ (i : Instr) (s : State) (k b : Nat),
    ((∃ p, i = .pullup p ∧ k ∈ [1, 3, 5, 6]) ∨ (∃ p d, i = .setdir p d ∧ k ∈ [1, 2])
      ∨ (∃ p l, i = .setlvl p l ∧ k = 1) ∨ (∃ p, i = .rdlvl p ∧ k = 1)
      ∨ (∃ p, (i = .init p ∨ i = .acq p) ∧ k ∈ [1, 3, 5, 6, 7, 8, 9, 10, 12, 13, 14])
      ∨ ∃ p, ((∃ n, i = .capt p n ∧ k = 6) ∨ (i = .acq p ∧ k = 20))
          ∧ (b = 0 ∨ (b = 1 ∧ s.strategy = true ∧ s.tmp.getLsbD p.toNat = true))) →
    s.env.portHangs = true → s.cfg.indicesLegal = true → s.inFlight = some i →
    s.seq = .run i.op k b →
      exec i s = .next s ∧ s.busy = true
end

