-- ==== Sys2Proof/Laws/Decode.lean ====
section
/-! SUPPORT. What the decoder's parts can answer, said once (R91 to R95). -/

namespace Sys2Proof

/-- Each opcode number stands for its own opcode (R93). -/
theorem Op.ofCode_code (op : Op) : Op.ofCode op.code = some op := by cases op <;> rfl

/-- A number that stands for an opcode is that opcode's number (R93). -/
theorem Op.code_of_ofCode {c : BitVec 4} {op : Op} (h : Op.ofCode c = some op) : c = op.code := by
  unfold Op.ofCode at h
  split at h <;> simp at h <;> (subst h; apply BitVec.eq_of_toNat_eq; simpa [Op.code])

theorem Op.op_instr (op : Op) (p : Pin) (a : Bool) (n : BitVec 6) : (op.instr p a n).op = op := by
  cases op <;> rfl

/-- What a legal word is (R95): a known opcode, zeros outside its format's fields, an edge count of at
most 42, and the command of its fields. -/
theorem decode_ok {w : Word} {i : Instr} (h : decode w = .ok i) :
    ∃ op : Op, opcField w = op.code ∧ w &&& op.format.zmask = 0#32
      ∧ (op = .capt → (maxEdgesField w).toNat ≤ 42)
      ∧ i = op.instr (pinField w) (argField w) (maxEdgesField w) := by
  unfold decode at h
  split at h
  · cases h
  · rename_i op hop
    split at h
    · cases h
    · split at h
      · cases h
      · rename_i h1 h2
        refine ⟨op, Op.code_of_ofCode hop, by simpa using h1, ?_, by simpa using h.symm⟩
        intro hc
        by_contra hh
        exact h2 ⟨hc, by simp only [Config.maxEdges]; omega⟩

/-- A bit the mask covers is 0 in a word that is 0 under the mask (R92). -/
theorem getLsbD_of_masked {w m : Word} (h : w &&& m = 0#32) {j : Nat} (hm : m.getLsbD j = true) :
    w.getLsbD j = false := by
  have := congrArg (fun x : Word => x.getLsbD j) h
  simpa [hm] using this

end Sys2Proof
end

