-- ==== Sys2Proof/Laws/State.lean ====
section
/-! SUPPORT. What each named update of the state leaves in each field, true by rfl, so that no proof unfolds
a record update. -/

namespace Sys2Proof.Machine

/-! ### a script put in place -/

@[simp] theorem State.withScript_cmd (s : State) (moves : List Move) : (s.withScript moves).cmd = s.cmd := rfl
@[simp] theorem State.withScript_done (s : State) (moves : List Move) : (s.withScript moves).done = s.done := rfl
@[simp] theorem State.withScript_fatal (s : State) (moves : List Move) : (s.withScript moves).fatal = s.fatal := rfl
@[simp] theorem State.withScript_rej (s : State) (moves : List Move) : (s.withScript moves).rej = s.rej := rfl
@[simp] theorem State.withScript_trunc (s : State) (moves : List Move) : (s.withScript moves).trunc = s.trunc := rfl
@[simp] theorem State.withScript_pvalid (s : State) (moves : List Move) : (s.withScript moves).pvalid = s.pvalid := rfl
@[simp] theorem State.withScript_rvalid (s : State) (moves : List Move) : (s.withScript moves).rvalid = s.rvalid := rfl
@[simp] theorem State.withScript_level (s : State) (moves : List Move) : (s.withScript moves).level = s.level := rfl
@[simp] theorem State.withScript_err (s : State) (moves : List Move) : (s.withScript moves).err = s.err := rfl
@[simp] theorem State.withScript_edgecnt (s : State) (moves : List Move) : (s.withScript moves).edgecnt = s.edgecnt := rfl
@[simp] theorem State.withScript_strategy (s : State) (moves : List Move) : (s.withScript moves).strategy = s.strategy := rfl
@[simp] theorem State.withScript_signmode (s : State) (moves : List Move) : (s.withScript moves).signmode = s.signmode := rfl
@[simp] theorem State.withScript_timeout (s : State) (moves : List Move) : (s.withScript moves).timeout = s.timeout := rfl
@[simp] theorem State.withScript_payload (s : State) (moves : List Move) : (s.withScript moves).payload = s.payload := rfl
@[simp] theorem State.withScript_hum (s : State) (moves : List Move) : (s.withScript moves).hum = s.hum := rfl
@[simp] theorem State.withScript_tmag (s : State) (moves : List Move) : (s.withScript moves).tmag = s.tmag := rfl
@[simp] theorem State.withScript_neg (s : State) (moves : List Move) : (s.withScript moves).neg = s.neg := rfl
@[simp] theorem State.withScript_ts (s : State) (moves : List Move) : (s.withScript moves).ts = s.ts := rfl
@[simp] theorem State.withScript_opc (s : State) (moves : List Move) : (s.withScript moves).opc = s.opc := rfl
@[simp] theorem State.withScript_pinl (s : State) (moves : List Move) : (s.withScript moves).pinl = s.pinl := rfl
@[simp] theorem State.withScript_argl (s : State) (moves : List Move) : (s.withScript moves).argl = s.argl := rfl
@[simp] theorem State.withScript_maxe (s : State) (moves : List Move) : (s.withScript moves).maxe = s.maxe := rfl
@[simp] theorem State.withScript_prev (s : State) (moves : List Move) : (s.withScript moves).prev = s.prev := rfl
@[simp] theorem State.withScript_t0 (s : State) (moves : List Move) : (s.withScript moves).t0 = s.t0 := rfl
@[simp] theorem State.withScript_tw (s : State) (moves : List Move) : (s.withScript moves).tw = s.tw := rfl
@[simp] theorem State.withScript_tmp (s : State) (moves : List Move) : (s.withScript moves).tmp = s.tmp := rfl
@[simp] theorem State.withScript_seq (s : State) (moves : List Move) : (s.withScript moves).seq = s.seq := rfl
@[simp] theorem State.withScript_cfg (s : State) (moves : List Move) : (s.withScript moves).cfg = s.cfg := rfl
@[simp] theorem State.withScript_env (s : State) (moves : List Move) : (s.withScript moves).env = { s.env with script := moves } := rfl
@[simp] theorem State.withScript_surf (s : State) (moves : List Move) : (s.withScript moves).surf = s.surf := rfl
@[simp] theorem State.withScript_trace (s : State) (moves : List Move) : (s.withScript moves).trace = s.trace := rfl
@[simp] theorem State.withScript_seen (s : State) (moves : List Move) : (s.withScript moves).seen = s.seen := rfl

/-! ### a write rejected while BUSY (R97) -/

@[simp] theorem State.reject_cmd (s : State) : (s.reject).cmd = s.cmd := rfl
@[simp] theorem State.reject_done (s : State) : (s.reject).done = s.done := rfl
@[simp] theorem State.reject_fatal (s : State) : (s.reject).fatal = s.fatal := rfl
@[simp] theorem State.reject_rej (s : State) : (s.reject).rej = true := rfl
@[simp] theorem State.reject_trunc (s : State) : (s.reject).trunc = s.trunc := rfl
@[simp] theorem State.reject_pvalid (s : State) : (s.reject).pvalid = s.pvalid := rfl
@[simp] theorem State.reject_rvalid (s : State) : (s.reject).rvalid = s.rvalid := rfl
@[simp] theorem State.reject_level (s : State) : (s.reject).level = s.level := rfl
@[simp] theorem State.reject_err (s : State) : (s.reject).err = s.err := rfl
@[simp] theorem State.reject_edgecnt (s : State) : (s.reject).edgecnt = s.edgecnt := rfl
@[simp] theorem State.reject_strategy (s : State) : (s.reject).strategy = s.strategy := rfl
@[simp] theorem State.reject_signmode (s : State) : (s.reject).signmode = s.signmode := rfl
@[simp] theorem State.reject_timeout (s : State) : (s.reject).timeout = s.timeout := rfl
@[simp] theorem State.reject_payload (s : State) : (s.reject).payload = s.payload := rfl
@[simp] theorem State.reject_hum (s : State) : (s.reject).hum = s.hum := rfl
@[simp] theorem State.reject_tmag (s : State) : (s.reject).tmag = s.tmag := rfl
@[simp] theorem State.reject_neg (s : State) : (s.reject).neg = s.neg := rfl
@[simp] theorem State.reject_ts (s : State) : (s.reject).ts = s.ts := rfl
@[simp] theorem State.reject_opc (s : State) : (s.reject).opc = s.opc := rfl
@[simp] theorem State.reject_pinl (s : State) : (s.reject).pinl = s.pinl := rfl
@[simp] theorem State.reject_argl (s : State) : (s.reject).argl = s.argl := rfl
@[simp] theorem State.reject_maxe (s : State) : (s.reject).maxe = s.maxe := rfl
@[simp] theorem State.reject_prev (s : State) : (s.reject).prev = s.prev := rfl
@[simp] theorem State.reject_t0 (s : State) : (s.reject).t0 = s.t0 := rfl
@[simp] theorem State.reject_tw (s : State) : (s.reject).tw = s.tw := rfl
@[simp] theorem State.reject_tmp (s : State) : (s.reject).tmp = s.tmp := rfl
@[simp] theorem State.reject_seq (s : State) : (s.reject).seq = s.seq := rfl
@[simp] theorem State.reject_cfg (s : State) : (s.reject).cfg = s.cfg := rfl
@[simp] theorem State.reject_env (s : State) : (s.reject).env = s.env := rfl
@[simp] theorem State.reject_surf (s : State) : (s.reject).surf = s.surf := rfl
@[simp] theorem State.reject_trace (s : State) : (s.reject).trace = s.trace := rfl
@[simp] theorem State.reject_seen (s : State) : (s.reject).seen = s.seen := rfl

/-! ### `complete` (R215) -/

@[simp] theorem State.complete_cmd (s : State) : (s.complete).cmd = s.cmd := rfl
@[simp] theorem State.complete_done (s : State) : (s.complete).done = true := rfl
@[simp] theorem State.complete_fatal (s : State) : (s.complete).fatal = s.fatal := rfl
@[simp] theorem State.complete_rej (s : State) : (s.complete).rej = s.rej := rfl
@[simp] theorem State.complete_trunc (s : State) : (s.complete).trunc = s.trunc := rfl
@[simp] theorem State.complete_pvalid (s : State) : (s.complete).pvalid = s.pvalid := rfl
@[simp] theorem State.complete_rvalid (s : State) : (s.complete).rvalid = s.rvalid := rfl
@[simp] theorem State.complete_level (s : State) : (s.complete).level = s.level := rfl
@[simp] theorem State.complete_err (s : State) : (s.complete).err = s.err := rfl
@[simp] theorem State.complete_edgecnt (s : State) : (s.complete).edgecnt = s.edgecnt := rfl
@[simp] theorem State.complete_strategy (s : State) : (s.complete).strategy = s.strategy := rfl
@[simp] theorem State.complete_signmode (s : State) : (s.complete).signmode = s.signmode := rfl
@[simp] theorem State.complete_timeout (s : State) : (s.complete).timeout = s.timeout := rfl
@[simp] theorem State.complete_payload (s : State) : (s.complete).payload = s.payload := rfl
@[simp] theorem State.complete_hum (s : State) : (s.complete).hum = s.hum := rfl
@[simp] theorem State.complete_tmag (s : State) : (s.complete).tmag = s.tmag := rfl
@[simp] theorem State.complete_neg (s : State) : (s.complete).neg = s.neg := rfl
@[simp] theorem State.complete_ts (s : State) : (s.complete).ts = s.ts := rfl
@[simp] theorem State.complete_opc (s : State) : (s.complete).opc = s.opc := rfl
@[simp] theorem State.complete_pinl (s : State) : (s.complete).pinl = s.pinl := rfl
@[simp] theorem State.complete_argl (s : State) : (s.complete).argl = s.argl := rfl
@[simp] theorem State.complete_maxe (s : State) : (s.complete).maxe = s.maxe := rfl
@[simp] theorem State.complete_prev (s : State) : (s.complete).prev = s.prev := rfl
@[simp] theorem State.complete_t0 (s : State) : (s.complete).t0 = s.t0 := rfl
@[simp] theorem State.complete_tw (s : State) : (s.complete).tw = s.tw := rfl
@[simp] theorem State.complete_tmp (s : State) : (s.complete).tmp = s.tmp := rfl
@[simp] theorem State.complete_seq (s : State) : (s.complete).seq = .idle := rfl
@[simp] theorem State.complete_cfg (s : State) : (s.complete).cfg = s.cfg := rfl
@[simp] theorem State.complete_env (s : State) : (s.complete).env = s.env := rfl
@[simp] theorem State.complete_surf (s : State) : (s.complete).surf = s.surf := rfl
@[simp] theorem State.complete_trace (s : State) : (s.complete).trace = s.trace := rfl
@[simp] theorem State.complete_seen (s : State) : (s.complete).seen = s.seen := rfl

/-! ### `raise E` (R216) -/

@[simp] theorem State.raiseErr_cmd (s : State) (e : ErrCode) : (s.raiseErr e).cmd = s.cmd := rfl
@[simp] theorem State.raiseErr_done (s : State) (e : ErrCode) : (s.raiseErr e).done = true := rfl
@[simp] theorem State.raiseErr_fatal (s : State) (e : ErrCode) : (s.raiseErr e).fatal = s.fatal := rfl
@[simp] theorem State.raiseErr_rej (s : State) (e : ErrCode) : (s.raiseErr e).rej = s.rej := rfl
@[simp] theorem State.raiseErr_trunc (s : State) (e : ErrCode) : (s.raiseErr e).trunc = s.trunc := rfl
@[simp] theorem State.raiseErr_pvalid (s : State) (e : ErrCode) : (s.raiseErr e).pvalid = s.pvalid := rfl
@[simp] theorem State.raiseErr_rvalid (s : State) (e : ErrCode) : (s.raiseErr e).rvalid = s.rvalid := rfl
@[simp] theorem State.raiseErr_level (s : State) (e : ErrCode) : (s.raiseErr e).level = s.level := rfl
@[simp] theorem State.raiseErr_err (s : State) (e : ErrCode) : (s.raiseErr e).err = e := rfl
@[simp] theorem State.raiseErr_edgecnt (s : State) (e : ErrCode) : (s.raiseErr e).edgecnt = s.edgecnt := rfl
@[simp] theorem State.raiseErr_strategy (s : State) (e : ErrCode) : (s.raiseErr e).strategy = s.strategy := rfl
@[simp] theorem State.raiseErr_signmode (s : State) (e : ErrCode) : (s.raiseErr e).signmode = s.signmode := rfl
@[simp] theorem State.raiseErr_timeout (s : State) (e : ErrCode) : (s.raiseErr e).timeout = s.timeout := rfl
@[simp] theorem State.raiseErr_payload (s : State) (e : ErrCode) : (s.raiseErr e).payload = s.payload := rfl
@[simp] theorem State.raiseErr_hum (s : State) (e : ErrCode) : (s.raiseErr e).hum = s.hum := rfl
@[simp] theorem State.raiseErr_tmag (s : State) (e : ErrCode) : (s.raiseErr e).tmag = s.tmag := rfl
@[simp] theorem State.raiseErr_neg (s : State) (e : ErrCode) : (s.raiseErr e).neg = s.neg := rfl
@[simp] theorem State.raiseErr_ts (s : State) (e : ErrCode) : (s.raiseErr e).ts = s.ts := rfl
@[simp] theorem State.raiseErr_opc (s : State) (e : ErrCode) : (s.raiseErr e).opc = s.opc := rfl
@[simp] theorem State.raiseErr_pinl (s : State) (e : ErrCode) : (s.raiseErr e).pinl = s.pinl := rfl
@[simp] theorem State.raiseErr_argl (s : State) (e : ErrCode) : (s.raiseErr e).argl = s.argl := rfl
@[simp] theorem State.raiseErr_maxe (s : State) (e : ErrCode) : (s.raiseErr e).maxe = s.maxe := rfl
@[simp] theorem State.raiseErr_prev (s : State) (e : ErrCode) : (s.raiseErr e).prev = s.prev := rfl
@[simp] theorem State.raiseErr_t0 (s : State) (e : ErrCode) : (s.raiseErr e).t0 = s.t0 := rfl
@[simp] theorem State.raiseErr_tw (s : State) (e : ErrCode) : (s.raiseErr e).tw = s.tw := rfl
@[simp] theorem State.raiseErr_tmp (s : State) (e : ErrCode) : (s.raiseErr e).tmp = s.tmp := rfl
@[simp] theorem State.raiseErr_seq (s : State) (e : ErrCode) : (s.raiseErr e).seq = .idle := rfl
@[simp] theorem State.raiseErr_cfg (s : State) (e : ErrCode) : (s.raiseErr e).cfg = s.cfg := rfl
@[simp] theorem State.raiseErr_env (s : State) (e : ErrCode) : (s.raiseErr e).env = s.env := rfl
@[simp] theorem State.raiseErr_surf (s : State) (e : ErrCode) : (s.raiseErr e).surf = s.surf := rfl
@[simp] theorem State.raiseErr_trace (s : State) (e : ErrCode) : (s.raiseErr e).trace = s.trace := rfl
@[simp] theorem State.raiseErr_seen (s : State) (e : ErrCode) : (s.raiseErr e).seen = s.seen := rfl

/-! ### PVALID and PAYLOAD cleared (R33) -/

@[simp] theorem State.clearPayload_cmd (s : State) : (s.clearPayload).cmd = s.cmd := rfl
@[simp] theorem State.clearPayload_done (s : State) : (s.clearPayload).done = s.done := rfl
@[simp] theorem State.clearPayload_fatal (s : State) : (s.clearPayload).fatal = s.fatal := rfl
@[simp] theorem State.clearPayload_rej (s : State) : (s.clearPayload).rej = s.rej := rfl
@[simp] theorem State.clearPayload_trunc (s : State) : (s.clearPayload).trunc = s.trunc := rfl
@[simp] theorem State.clearPayload_pvalid (s : State) : (s.clearPayload).pvalid = false := rfl
@[simp] theorem State.clearPayload_rvalid (s : State) : (s.clearPayload).rvalid = s.rvalid := rfl
@[simp] theorem State.clearPayload_level (s : State) : (s.clearPayload).level = s.level := rfl
@[simp] theorem State.clearPayload_err (s : State) : (s.clearPayload).err = s.err := rfl
@[simp] theorem State.clearPayload_edgecnt (s : State) : (s.clearPayload).edgecnt = s.edgecnt := rfl
@[simp] theorem State.clearPayload_strategy (s : State) : (s.clearPayload).strategy = s.strategy := rfl
@[simp] theorem State.clearPayload_signmode (s : State) : (s.clearPayload).signmode = s.signmode := rfl
@[simp] theorem State.clearPayload_timeout (s : State) : (s.clearPayload).timeout = s.timeout := rfl
@[simp] theorem State.clearPayload_payload (s : State) : (s.clearPayload).payload = zeroPayload := rfl
@[simp] theorem State.clearPayload_hum (s : State) : (s.clearPayload).hum = s.hum := rfl
@[simp] theorem State.clearPayload_tmag (s : State) : (s.clearPayload).tmag = s.tmag := rfl
@[simp] theorem State.clearPayload_neg (s : State) : (s.clearPayload).neg = s.neg := rfl
@[simp] theorem State.clearPayload_ts (s : State) : (s.clearPayload).ts = s.ts := rfl
@[simp] theorem State.clearPayload_opc (s : State) : (s.clearPayload).opc = s.opc := rfl
@[simp] theorem State.clearPayload_pinl (s : State) : (s.clearPayload).pinl = s.pinl := rfl
@[simp] theorem State.clearPayload_argl (s : State) : (s.clearPayload).argl = s.argl := rfl
@[simp] theorem State.clearPayload_maxe (s : State) : (s.clearPayload).maxe = s.maxe := rfl
@[simp] theorem State.clearPayload_prev (s : State) : (s.clearPayload).prev = s.prev := rfl
@[simp] theorem State.clearPayload_t0 (s : State) : (s.clearPayload).t0 = s.t0 := rfl
@[simp] theorem State.clearPayload_tw (s : State) : (s.clearPayload).tw = s.tw := rfl
@[simp] theorem State.clearPayload_tmp (s : State) : (s.clearPayload).tmp = s.tmp := rfl
@[simp] theorem State.clearPayload_seq (s : State) : (s.clearPayload).seq = s.seq := rfl
@[simp] theorem State.clearPayload_cfg (s : State) : (s.clearPayload).cfg = s.cfg := rfl
@[simp] theorem State.clearPayload_env (s : State) : (s.clearPayload).env = s.env := rfl
@[simp] theorem State.clearPayload_surf (s : State) : (s.clearPayload).surf = s.surf := rfl
@[simp] theorem State.clearPayload_trace (s : State) : (s.clearPayload).trace = s.trace := rfl
@[simp] theorem State.clearPayload_seen (s : State) : (s.clearPayload).seen = s.seen := rfl

/-! ### RVALID and RESULT cleared (R33) -/

@[simp] theorem State.clearResult_cmd (s : State) : (s.clearResult).cmd = s.cmd := rfl
@[simp] theorem State.clearResult_done (s : State) : (s.clearResult).done = s.done := rfl
@[simp] theorem State.clearResult_fatal (s : State) : (s.clearResult).fatal = s.fatal := rfl
@[simp] theorem State.clearResult_rej (s : State) : (s.clearResult).rej = s.rej := rfl
@[simp] theorem State.clearResult_trunc (s : State) : (s.clearResult).trunc = s.trunc := rfl
@[simp] theorem State.clearResult_pvalid (s : State) : (s.clearResult).pvalid = s.pvalid := rfl
@[simp] theorem State.clearResult_rvalid (s : State) : (s.clearResult).rvalid = false := rfl
@[simp] theorem State.clearResult_level (s : State) : (s.clearResult).level = s.level := rfl
@[simp] theorem State.clearResult_err (s : State) : (s.clearResult).err = s.err := rfl
@[simp] theorem State.clearResult_edgecnt (s : State) : (s.clearResult).edgecnt = s.edgecnt := rfl
@[simp] theorem State.clearResult_strategy (s : State) : (s.clearResult).strategy = s.strategy := rfl
@[simp] theorem State.clearResult_signmode (s : State) : (s.clearResult).signmode = s.signmode := rfl
@[simp] theorem State.clearResult_timeout (s : State) : (s.clearResult).timeout = s.timeout := rfl
@[simp] theorem State.clearResult_payload (s : State) : (s.clearResult).payload = s.payload := rfl
@[simp] theorem State.clearResult_hum (s : State) : (s.clearResult).hum = 0#16 := rfl
@[simp] theorem State.clearResult_tmag (s : State) : (s.clearResult).tmag = 0#15 := rfl
@[simp] theorem State.clearResult_neg (s : State) : (s.clearResult).neg = false := rfl
@[simp] theorem State.clearResult_ts (s : State) : (s.clearResult).ts = s.ts := rfl
@[simp] theorem State.clearResult_opc (s : State) : (s.clearResult).opc = s.opc := rfl
@[simp] theorem State.clearResult_pinl (s : State) : (s.clearResult).pinl = s.pinl := rfl
@[simp] theorem State.clearResult_argl (s : State) : (s.clearResult).argl = s.argl := rfl
@[simp] theorem State.clearResult_maxe (s : State) : (s.clearResult).maxe = s.maxe := rfl
@[simp] theorem State.clearResult_prev (s : State) : (s.clearResult).prev = s.prev := rfl
@[simp] theorem State.clearResult_t0 (s : State) : (s.clearResult).t0 = s.t0 := rfl
@[simp] theorem State.clearResult_tw (s : State) : (s.clearResult).tw = s.tw := rfl
@[simp] theorem State.clearResult_tmp (s : State) : (s.clearResult).tmp = s.tmp := rfl
@[simp] theorem State.clearResult_seq (s : State) : (s.clearResult).seq = s.seq := rfl
@[simp] theorem State.clearResult_cfg (s : State) : (s.clearResult).cfg = s.cfg := rfl
@[simp] theorem State.clearResult_env (s : State) : (s.clearResult).env = s.env := rfl
@[simp] theorem State.clearResult_surf (s : State) : (s.clearResult).surf = s.surf := rfl
@[simp] theorem State.clearResult_trace (s : State) : (s.clearResult).trace = s.trace := rfl
@[simp] theorem State.clearResult_seen (s : State) : (s.clearResult).seen = s.seen := rfl

/-! ### SEQ moved to a numbered micro-step -/

@[simp] theorem State.goto_cmd (s : State) (k : Nat) : (s.goto k).cmd = s.cmd := rfl
@[simp] theorem State.goto_done (s : State) (k : Nat) : (s.goto k).done = s.done := rfl
@[simp] theorem State.goto_fatal (s : State) (k : Nat) : (s.goto k).fatal = s.fatal := rfl
@[simp] theorem State.goto_rej (s : State) (k : Nat) : (s.goto k).rej = s.rej := rfl
@[simp] theorem State.goto_trunc (s : State) (k : Nat) : (s.goto k).trunc = s.trunc := rfl
@[simp] theorem State.goto_pvalid (s : State) (k : Nat) : (s.goto k).pvalid = s.pvalid := rfl
@[simp] theorem State.goto_rvalid (s : State) (k : Nat) : (s.goto k).rvalid = s.rvalid := rfl
@[simp] theorem State.goto_level (s : State) (k : Nat) : (s.goto k).level = s.level := rfl
@[simp] theorem State.goto_err (s : State) (k : Nat) : (s.goto k).err = s.err := rfl
@[simp] theorem State.goto_edgecnt (s : State) (k : Nat) : (s.goto k).edgecnt = s.edgecnt := rfl
@[simp] theorem State.goto_strategy (s : State) (k : Nat) : (s.goto k).strategy = s.strategy := rfl
@[simp] theorem State.goto_signmode (s : State) (k : Nat) : (s.goto k).signmode = s.signmode := rfl
@[simp] theorem State.goto_timeout (s : State) (k : Nat) : (s.goto k).timeout = s.timeout := rfl
@[simp] theorem State.goto_payload (s : State) (k : Nat) : (s.goto k).payload = s.payload := rfl
@[simp] theorem State.goto_hum (s : State) (k : Nat) : (s.goto k).hum = s.hum := rfl
@[simp] theorem State.goto_tmag (s : State) (k : Nat) : (s.goto k).tmag = s.tmag := rfl
@[simp] theorem State.goto_neg (s : State) (k : Nat) : (s.goto k).neg = s.neg := rfl
@[simp] theorem State.goto_ts (s : State) (k : Nat) : (s.goto k).ts = s.ts := rfl
@[simp] theorem State.goto_opc (s : State) (k : Nat) : (s.goto k).opc = s.opc := rfl
@[simp] theorem State.goto_pinl (s : State) (k : Nat) : (s.goto k).pinl = s.pinl := rfl
@[simp] theorem State.goto_argl (s : State) (k : Nat) : (s.goto k).argl = s.argl := rfl
@[simp] theorem State.goto_maxe (s : State) (k : Nat) : (s.goto k).maxe = s.maxe := rfl
@[simp] theorem State.goto_prev (s : State) (k : Nat) : (s.goto k).prev = s.prev := rfl
@[simp] theorem State.goto_t0 (s : State) (k : Nat) : (s.goto k).t0 = s.t0 := rfl
@[simp] theorem State.goto_tw (s : State) (k : Nat) : (s.goto k).tw = s.tw := rfl
@[simp] theorem State.goto_tmp (s : State) (k : Nat) : (s.goto k).tmp = s.tmp := rfl
@[simp] theorem State.goto_seq (s : State) (k : Nat) : (s.goto k).seq = s.seq.goto k := rfl
@[simp] theorem State.goto_cfg (s : State) (k : Nat) : (s.goto k).cfg = s.cfg := rfl
@[simp] theorem State.goto_env (s : State) (k : Nat) : (s.goto k).env = s.env := rfl
@[simp] theorem State.goto_surf (s : State) (k : Nat) : (s.goto k).surf = s.surf := rfl
@[simp] theorem State.goto_trace (s : State) (k : Nat) : (s.goto k).trace = s.trace := rfl
@[simp] theorem State.goto_seen (s : State) (k : Nat) : (s.goto k).seen = s.seen := rfl

/-! ### SEQ moved to the next micro-step -/

@[simp] theorem State.advance_cmd (s : State) : (s.advance).cmd = s.cmd := rfl
@[simp] theorem State.advance_done (s : State) : (s.advance).done = s.done := rfl
@[simp] theorem State.advance_fatal (s : State) : (s.advance).fatal = s.fatal := rfl
@[simp] theorem State.advance_rej (s : State) : (s.advance).rej = s.rej := rfl
@[simp] theorem State.advance_trunc (s : State) : (s.advance).trunc = s.trunc := rfl
@[simp] theorem State.advance_pvalid (s : State) : (s.advance).pvalid = s.pvalid := rfl
@[simp] theorem State.advance_rvalid (s : State) : (s.advance).rvalid = s.rvalid := rfl
@[simp] theorem State.advance_level (s : State) : (s.advance).level = s.level := rfl
@[simp] theorem State.advance_err (s : State) : (s.advance).err = s.err := rfl
@[simp] theorem State.advance_edgecnt (s : State) : (s.advance).edgecnt = s.edgecnt := rfl
@[simp] theorem State.advance_strategy (s : State) : (s.advance).strategy = s.strategy := rfl
@[simp] theorem State.advance_signmode (s : State) : (s.advance).signmode = s.signmode := rfl
@[simp] theorem State.advance_timeout (s : State) : (s.advance).timeout = s.timeout := rfl
@[simp] theorem State.advance_payload (s : State) : (s.advance).payload = s.payload := rfl
@[simp] theorem State.advance_hum (s : State) : (s.advance).hum = s.hum := rfl
@[simp] theorem State.advance_tmag (s : State) : (s.advance).tmag = s.tmag := rfl
@[simp] theorem State.advance_neg (s : State) : (s.advance).neg = s.neg := rfl
@[simp] theorem State.advance_ts (s : State) : (s.advance).ts = s.ts := rfl
@[simp] theorem State.advance_opc (s : State) : (s.advance).opc = s.opc := rfl
@[simp] theorem State.advance_pinl (s : State) : (s.advance).pinl = s.pinl := rfl
@[simp] theorem State.advance_argl (s : State) : (s.advance).argl = s.argl := rfl
@[simp] theorem State.advance_maxe (s : State) : (s.advance).maxe = s.maxe := rfl
@[simp] theorem State.advance_prev (s : State) : (s.advance).prev = s.prev := rfl
@[simp] theorem State.advance_t0 (s : State) : (s.advance).t0 = s.t0 := rfl
@[simp] theorem State.advance_tw (s : State) : (s.advance).tw = s.tw := rfl
@[simp] theorem State.advance_tmp (s : State) : (s.advance).tmp = s.tmp := rfl
@[simp] theorem State.advance_seq (s : State) : (s.advance).seq = s.seq.advance := rfl
@[simp] theorem State.advance_cfg (s : State) : (s.advance).cfg = s.cfg := rfl
@[simp] theorem State.advance_env (s : State) : (s.advance).env = s.env := rfl
@[simp] theorem State.advance_surf (s : State) : (s.advance).surf = s.surf := rfl
@[simp] theorem State.advance_trace (s : State) : (s.advance).trace = s.trace := rfl
@[simp] theorem State.advance_seen (s : State) : (s.advance).seen = s.seen := rfl

/-! ### SEQ moved inside its micro-step -/

@[simp] theorem State.within_cmd (s : State) (b : Nat) : (s.within b).cmd = s.cmd := rfl
@[simp] theorem State.within_done (s : State) (b : Nat) : (s.within b).done = s.done := rfl
@[simp] theorem State.within_fatal (s : State) (b : Nat) : (s.within b).fatal = s.fatal := rfl
@[simp] theorem State.within_rej (s : State) (b : Nat) : (s.within b).rej = s.rej := rfl
@[simp] theorem State.within_trunc (s : State) (b : Nat) : (s.within b).trunc = s.trunc := rfl
@[simp] theorem State.within_pvalid (s : State) (b : Nat) : (s.within b).pvalid = s.pvalid := rfl
@[simp] theorem State.within_rvalid (s : State) (b : Nat) : (s.within b).rvalid = s.rvalid := rfl
@[simp] theorem State.within_level (s : State) (b : Nat) : (s.within b).level = s.level := rfl
@[simp] theorem State.within_err (s : State) (b : Nat) : (s.within b).err = s.err := rfl
@[simp] theorem State.within_edgecnt (s : State) (b : Nat) : (s.within b).edgecnt = s.edgecnt := rfl
@[simp] theorem State.within_strategy (s : State) (b : Nat) : (s.within b).strategy = s.strategy := rfl
@[simp] theorem State.within_signmode (s : State) (b : Nat) : (s.within b).signmode = s.signmode := rfl
@[simp] theorem State.within_timeout (s : State) (b : Nat) : (s.within b).timeout = s.timeout := rfl
@[simp] theorem State.within_payload (s : State) (b : Nat) : (s.within b).payload = s.payload := rfl
@[simp] theorem State.within_hum (s : State) (b : Nat) : (s.within b).hum = s.hum := rfl
@[simp] theorem State.within_tmag (s : State) (b : Nat) : (s.within b).tmag = s.tmag := rfl
@[simp] theorem State.within_neg (s : State) (b : Nat) : (s.within b).neg = s.neg := rfl
@[simp] theorem State.within_ts (s : State) (b : Nat) : (s.within b).ts = s.ts := rfl
@[simp] theorem State.within_opc (s : State) (b : Nat) : (s.within b).opc = s.opc := rfl
@[simp] theorem State.within_pinl (s : State) (b : Nat) : (s.within b).pinl = s.pinl := rfl
@[simp] theorem State.within_argl (s : State) (b : Nat) : (s.within b).argl = s.argl := rfl
@[simp] theorem State.within_maxe (s : State) (b : Nat) : (s.within b).maxe = s.maxe := rfl
@[simp] theorem State.within_prev (s : State) (b : Nat) : (s.within b).prev = s.prev := rfl
@[simp] theorem State.within_t0 (s : State) (b : Nat) : (s.within b).t0 = s.t0 := rfl
@[simp] theorem State.within_tw (s : State) (b : Nat) : (s.within b).tw = s.tw := rfl
@[simp] theorem State.within_tmp (s : State) (b : Nat) : (s.within b).tmp = s.tmp := rfl
@[simp] theorem State.within_seq (s : State) (b : Nat) : (s.within b).seq = s.seq.within b := rfl
@[simp] theorem State.within_cfg (s : State) (b : Nat) : (s.within b).cfg = s.cfg := rfl
@[simp] theorem State.within_env (s : State) (b : Nat) : (s.within b).env = s.env := rfl
@[simp] theorem State.within_surf (s : State) (b : Nat) : (s.within b).surf = s.surf := rfl
@[simp] theorem State.within_trace (s : State) (b : Nat) : (s.within b).trace = s.trace := rfl
@[simp] theorem State.within_seen (s : State) (b : Nat) : (s.within b).seen = s.seen := rfl

/-! ### one observation of the timebase (R13) -/

@[simp] theorem State.observed_cmd (s : State) : (s.observed).cmd = s.cmd := rfl
@[simp] theorem State.observed_done (s : State) : (s.observed).done = s.done := rfl
@[simp] theorem State.observed_fatal (s : State) : (s.observed).fatal = s.fatal := rfl
@[simp] theorem State.observed_rej (s : State) : (s.observed).rej = s.rej := rfl
@[simp] theorem State.observed_trunc (s : State) : (s.observed).trunc = s.trunc := rfl
@[simp] theorem State.observed_pvalid (s : State) : (s.observed).pvalid = s.pvalid := rfl
@[simp] theorem State.observed_rvalid (s : State) : (s.observed).rvalid = s.rvalid := rfl
@[simp] theorem State.observed_level (s : State) : (s.observed).level = s.level := rfl
@[simp] theorem State.observed_err (s : State) : (s.observed).err = s.err := rfl
@[simp] theorem State.observed_edgecnt (s : State) : (s.observed).edgecnt = s.edgecnt := rfl
@[simp] theorem State.observed_strategy (s : State) : (s.observed).strategy = s.strategy := rfl
@[simp] theorem State.observed_signmode (s : State) : (s.observed).signmode = s.signmode := rfl
@[simp] theorem State.observed_timeout (s : State) : (s.observed).timeout = s.timeout := rfl
@[simp] theorem State.observed_payload (s : State) : (s.observed).payload = s.payload := rfl
@[simp] theorem State.observed_hum (s : State) : (s.observed).hum = s.hum := rfl
@[simp] theorem State.observed_tmag (s : State) : (s.observed).tmag = s.tmag := rfl
@[simp] theorem State.observed_neg (s : State) : (s.observed).neg = s.neg := rfl
@[simp] theorem State.observed_ts (s : State) : (s.observed).ts = s.ts := rfl
@[simp] theorem State.observed_opc (s : State) : (s.observed).opc = s.opc := rfl
@[simp] theorem State.observed_pinl (s : State) : (s.observed).pinl = s.pinl := rfl
@[simp] theorem State.observed_argl (s : State) : (s.observed).argl = s.argl := rfl
@[simp] theorem State.observed_maxe (s : State) : (s.observed).maxe = s.maxe := rfl
@[simp] theorem State.observed_prev (s : State) : (s.observed).prev = s.prev := rfl
@[simp] theorem State.observed_t0 (s : State) : (s.observed).t0 = s.t0 := rfl
@[simp] theorem State.observed_tw (s : State) : (s.observed).tw = s.tw := rfl
@[simp] theorem State.observed_tmp (s : State) : (s.observed).tmp = s.tmp := rfl
@[simp] theorem State.observed_seq (s : State) : (s.observed).seq = s.seq := rfl
@[simp] theorem State.observed_cfg (s : State) : (s.observed).cfg = s.cfg := rfl
@[simp] theorem State.observed_env (s : State) : (s.observed).env = s.envAfterNow := rfl
@[simp] theorem State.observed_surf (s : State) : (s.observed).surf = s.surf := rfl
@[simp] theorem State.observed_trace (s : State) : (s.observed).trace = s.trace ++ [.now s.nowAnswer] := rfl
@[simp] theorem State.observed_seen (s : State) : (s.observed).seen = s.seen := rfl

/-! ### Positions -/

@[simp] theorem Seq.goto_run (k : Nat) (op : Op) (j b : Nat) :
    (Seq.run op j b).goto k = .run op k 0 := rfl
@[simp] theorem Seq.advance_run (op : Op) (j b : Nat) : (Seq.run op j b).advance = .run op (j + 1) 0 := rfl
@[simp] theorem Seq.within_run (b : Nat) (op : Op) (j c : Nat) :
    (Seq.run op j c).within b = .run op j b := rfl
@[simp] theorem Seq.goto_idle (k : Nat) : Seq.idle.goto k = .idle := rfl
@[simp] theorem Seq.advance_idle : Seq.idle.advance = .idle := rfl
@[simp] theorem Seq.within_idle (b : Nat) : Seq.idle.within b = .idle := rfl

/-- BUSY exactly while SEQ is not `idle` (R24). -/
theorem State.busy_iff (s : State) : s.busy = true ↔ s.seq ≠ .idle := by
  unfold State.busy
  split <;> simp_all

theorem State.busy_eq_false_iff (s : State) : s.busy = false ↔ s.seq = .idle := by
  unfold State.busy
  split <;> simp_all

theorem State.sub_of_run {s : State} {op : Op} {k b : Nat} (h : s.seq = .run op k b) : s.sub = b := by
  simp [State.sub, h]

/-- What is in flight stands in SEQ, with the latched operands (R36, R38). -/
theorem State.inFlight_of_run {s : State} {op : Op} {k b : Nat} (h : s.seq = .run op k b) :
    s.inFlight = some (op.instr s.pinl s.argl s.maxe) := by
  simp [State.inFlight, h]

theorem State.inFlight_idle {s : State} (h : s.seq = .idle) : s.inFlight = none := by
  simp [State.inFlight, h]

theorem State.inFlight_eq_some {s : State} {i : Instr} (h : s.inFlight = some i) :
    ∃ op k b, s.seq = .run op k b ∧ op.instr s.pinl s.argl s.maxe = i := by
  unfold State.inFlight at h
  split at h
  · cases h
  · rename_i op k b hs
    exact ⟨op, k, b, hs, by simpa using h⟩

theorem State.inFlight_eq_none {s : State} (h : s.inFlight = none) : s.seq = .idle := by
  unfold State.inFlight at h
  split at h
  · assumption
  · cases h

/-! ### The environment after an answer -/

@[simp] theorem State.envAfterNow_script (s : State) : s.envAfterNow.script = s.env.script := by
  unfold State.envAfterNow; split <;> rfl
@[simp] theorem State.envAfterNow_portHangs (s : State) : s.envAfterNow.portHangs = s.env.portHangs := by
  unfold State.envAfterNow; split <;> rfl
@[simp] theorem State.envAfterNow_surfaceOk (s : State) : s.envAfterNow.surfaceOk = s.env.surfaceOk := by
  unfold State.envAfterNow; split <;> rfl
@[simp] theorem State.envAfterNow_bareOracle (s : State) :
    s.envAfterNow.bareOracle = s.env.bareOracle := by
  unfold State.envAfterNow; split <;> rfl
@[simp] theorem State.envAfterNow_reads (s : State) : s.envAfterNow.reads = s.env.reads := by
  unfold State.envAfterNow; split <;> rfl
@[simp] theorem State.envAfterNow_freeReads (s : State) : s.envAfterNow.freeReads = s.env.freeReads := by
  unfold State.envAfterNow; split <;> rfl
@[simp] theorem State.envAfterRead_script (s : State) : s.envAfterRead.script = s.env.script := by
  unfold State.envAfterRead; split <;> rfl
@[simp] theorem State.envAfterRead_portHangs (s : State) :
    s.envAfterRead.portHangs = s.env.portHangs := by
  unfold State.envAfterRead; split <;> rfl
@[simp] theorem State.envAfterRead_surfaceOk (s : State) :
    s.envAfterRead.surfaceOk = s.env.surfaceOk := by
  unfold State.envAfterRead; split <;> rfl
@[simp] theorem State.envAfterRead_bareOracle (s : State) :
    s.envAfterRead.bareOracle = s.env.bareOracle := by
  unfold State.envAfterRead; split <;> rfl
@[simp] theorem State.envAfterRead_times (s : State) : s.envAfterRead.times = s.env.times := by
  unfold State.envAfterRead; split <;> rfl
@[simp] theorem State.envAfterRead_freeNows (s : State) :
    s.envAfterRead.freeNows = s.env.freeNows := by
  unfold State.envAfterRead; split <;> rfl

/-- A scripted answer is the next one in the script, and is used up (R13). -/
theorem State.observe_scripted {s : State} {t : Timestamp} {rest : List Timestamp}
    (h : s.env.times = t :: rest) :
    s.nowAnswer = t ∧ s.envAfterNow = { s.env with times := rest } := by
  simp [State.nowAnswer, State.envAfterNow, h]

/-- Where the timebase's answers are in order, so are those to come after one is used (R13). -/
theorem State.envAfterNow_times_scripted {s : State} (h : s.env.times ≠ []) :
    s.env.times = s.nowAnswer :: s.envAfterNow.times := by
  unfold State.nowAnswer State.envAfterNow
  split <;> simp_all

end Sys2Proof.Machine
end

