-- ==== Sys2Proof/Laws/Ops.lean ====
section
/-! SUPPORT. What each shared operation can do, said once. -/

namespace Sys2Proof.Machine

/-! ### `Wait` (R14) -/

theorem wait_begin {d : Nat} {s : State} (h : s.sub = 0) :
    wait d s = .next ({ s.observed with tw := s.nowAnswer }.within 1) := by
  simp [wait, h]

theorem wait_poll {d : Nat} {s : State} (h : s.sub ≠ 0) :
    wait d s = .next (if (d : Int) ≤ elapsedNs s.tw s.nowAnswer then s.observed.advance else s.observed) := by
  unfold wait
  split
  · contradiction
  · split <;> rfl

/-- A step of a wait always has a next state: it observes once, and moves SEQ or not. -/
theorem wait_next {d : Nat} {s t : State} (h : wait d s = .next t) :
    (s.sub = 0 ∧ t = { s.observed with tw := s.nowAnswer }.within 1)
      ∨ (s.sub ≠ 0 ∧ (d : Int) ≤ elapsedNs s.tw s.nowAnswer ∧ t = s.observed.advance)
      ∨ (s.sub ≠ 0 ∧ elapsedNs s.tw s.nowAnswer < (d : Int) ∧ t = s.observed) := by
  by_cases hs : s.sub = 0
  · rw [wait_begin hs] at h
    simp at h
    exact .inl ⟨hs, h.symm⟩
  · rw [wait_poll hs] at h
    simp only [Host.Outcome.next.injEq] at h
    split at h
    · exact .inr (.inl ⟨hs, ‹_›, h.symm⟩)
    · exact .inr (.inr ⟨hs, by omega, h.symm⟩)

theorem wait_ne_fault {d : Nat} {s : State} {r : Fault} : wait d s ≠ .fault r := by
  by_cases hs : s.sub = 0
  · simp [wait_begin hs]
  · simp [wait_poll hs]

/-! ### The port (R63, R64) -/

theorem regRead_ok {idx : Nat} {move : State → State} {s : State} (h : idx < Config.surfWords)
    (hp : s.env.portHangs = false) :
    regRead idx move s =
      .next (move
        { s with
          tmp := s.readAnswer idx
          env := s.envAfterRead
          trace := s.trace ++ [.read idx (s.readAnswer idx)] }) := by
  simp [regRead, h, hp]

theorem regWrite_ok {idx : Nat} {v : Word} {move : State → State} {s : State}
    (h : idx < Config.surfWords) (hp : s.env.portHangs = false) :
    regWrite idx v move s =
      .next (move
        { s with surf := s.surf.absorb s.cfg idx v, trace := s.trace ++ [.write idx v] }) := by
  simp [regWrite, h, hp]

/-- A hanging port: the micro-step does not end and nothing changes (U12). -/
theorem regRead_hangs {idx : Nat} {move : State → State} {s : State} (h : idx < Config.surfWords)
    (hp : s.env.portHangs = true) : regRead idx move s = .next s := by
  simp [regRead, h, hp]

theorem regWrite_hangs {idx : Nat} {v : Word} {move : State → State} {s : State}
    (h : idx < Config.surfWords) (hp : s.env.portHangs = true) : regWrite idx v move s = .next s := by
  simp [regWrite, h, hp]

theorem regRead_next {idx : Nat} {move : State → State} {s t : State}
    (h : regRead idx move s = .next t) :
    idx < Config.surfWords
      ∧ ((s.env.portHangs = true ∧ t = s)
        ∨ (s.env.portHangs = false
          ∧ t = move
            { s with
              tmp := s.readAnswer idx
              env := s.envAfterRead
              trace := s.trace ++ [.read idx (s.readAnswer idx)] })) := by
  unfold regRead at h
  split at h
  · refine ⟨‹_›, ?_⟩
    split at h
    · exact .inl ⟨‹_›, by simpa using h.symm⟩
    · exact .inr ⟨Bool.eq_false_iff.mpr ‹_›, by simpa using h.symm⟩
  · cases h

theorem regWrite_next {idx : Nat} {v : Word} {move : State → State} {s t : State}
    (h : regWrite idx v move s = .next t) :
    idx < Config.surfWords
      ∧ ((s.env.portHangs = true ∧ t = s)
        ∨ (s.env.portHangs = false
          ∧ t = move
            { s with surf := s.surf.absorb s.cfg idx v, trace := s.trace ++ [.write idx v] })) := by
  unfold regWrite at h
  split at h
  · refine ⟨‹_›, ?_⟩
    split at h
    · exact .inl ⟨‹_›, by simpa using h.symm⟩
    · exact .inr ⟨Bool.eq_false_iff.mpr ‹_›, by simpa using h.symm⟩
  · cases h

/-- A port access stops only at an index the surface does not have (R61, R69). -/
theorem regRead_fault {idx : Nat} {move : State → State} {s : State} {r : Fault}
    (h : regRead idx move s = .fault r) : ¬ idx < Config.surfWords := by
  intro hi
  unfold regRead at h
  rw [if_pos hi] at h
  split at h <;> cases h

theorem regWrite_fault {idx : Nat} {v : Word} {move : State → State} {s : State} {r : Fault}
    (h : regWrite idx v move s = .fault r) : ¬ idx < Config.surfWords := by
  intro hi
  unfold regWrite at h
  rw [if_pos hi] at h
  split at h <;> cases h

/-! ### Recording an edge (R151, R152) -/

theorem recordEdge_next {move : State → State} {s t : State} (h : recordEdge move s = .next t) :
    ∃ hc : s.edgecnt.toNat < 42,
      t = move
        { s.observed with
          ts := s.observed.ts.set s.edgecnt.toNat s.nowAnswer hc
          edgecnt := s.edgecnt + 1#6 } := by
  unfold recordEdge at h
  split at h
  · exact ⟨‹_›, by simpa using h.symm⟩
  · cases h

theorem recordEdge_ok {move : State → State} {s : State} (hc : s.edgecnt.toNat < 42) :
    recordEdge move s =
      .next (move
        { s.observed with
          ts := s.observed.ts.set s.edgecnt.toNat s.nowAnswer hc
          edgecnt := s.edgecnt + 1#6 }) := by
  simp [recordEdge, hc]

/-! ### Running a command (R36, R96, R97) -/

theorem runCommand_idle {i : Instr} {body : Nat → State → Outcome} {s : State} (h : s.seq = .idle) :
    runCommand i body s = .next (acceptWord (encode i) s) := by
  simp [runCommand, h]

theorem runCommand_inFlight {i : Instr} {body : Nat → State → Outcome} {s : State} {op : Op}
    {k b : Nat} (h : s.seq = .run op k b) (hi : s.inFlight = some i) :
    runCommand i body s = body k s := by
  simp [runCommand, h, hi]

theorem runCommand_other {i : Instr} {body : Nat → State → Outcome} {s : State}
    (h : s.seq ≠ .idle) (hi : s.inFlight ≠ some i) : runCommand i body s = .next s.reject := by
  unfold runCommand
  split
  · contradiction
  · rw [if_neg hi]

/-! ### Accepting a command (R96) -/

/-- An illegal word ends at acceptance and changes CMD, DONE, ERR and REJ alone (R98). -/
theorem acceptWord_illegal {w : Word} {s : State} {why : Illegal} (h : decode w = .error why) :
    acceptWord w s = { s with rej := false, done := true, err := .illegalCommand, cmd := w } := by
  simp [acceptWord, h]

theorem acceptWord_fatal {w : Word} {s : State} {i : Instr} (h : decode w = .ok i)
    (hf : s.fatal = true) :
    acceptWord w s = { s with rej := false, done := true, err := .registerMapFailure, cmd := w } := by
  simp [acceptWord, h, hf]

theorem acceptWord_unreachable {w : Word} {s : State} {i : Instr} (h : decode w = .ok i)
    (hf : s.fatal = false) (ht : i.op.touchesSurface = true) (hs : s.env.surfaceOk = false) :
    acceptWord w s =
      { s with rej := false, done := true, err := .registerMapFailure, cmd := w, fatal := true } := by
  simp [acceptWord, h, hf, ht, hs]

theorem acceptWord_starts {w : Word} {s : State} {i : Instr} (h : decode w = .ok i)
    (hf : s.fatal = false) (hs : i.op.touchesSurface = true → s.env.surfaceOk = true) :
    acceptWord w s =
      { s with
        rej := false, done := false, err := .none, cmd := w
        opc := opcField w, pinl := pinField w, argl := argField w
        maxe := if opcField w = 0x9#4 then 42#6 else maxEdgesField w
        seq := .run i.op 1 0 } := by
  cases ht : i.op.touchesSurface <;> simp_all [acceptWord]

/-! ### Which agent moves (R5) -/

theorem fetch_engine {s : State} {i : Instr} (h : s.env.script = []) (hi : s.inFlight = some i) :
    fetch s = .command i s := by
  simp [fetch, engineTurn, h, hi]

/-- With nothing scripted and a command in flight, a step is the command's (R38). -/
theorem step_engine {s : State} {i : Instr} (h : s.env.script = []) (hi : s.inFlight = some i) :
    step s = exec i s := by
  simp [step, fetch_engine h hi]

/-- An idle engine with nothing scripted stays as it is (R228). -/
theorem step_idle {s : State} (h : s.env.script = []) (hs : s.seq = .idle) : step s = .next s := by
  simp [step, fetch, engineTurn, h, State.inFlight_idle hs]

end Sys2Proof.Machine
end

