-- ==== Sys2Proof/Laws/PerInstr.lean ====
section
/-! SUPPORT. What holds of every instruction as syntax: the family CommandWord says how the fields of an
instruction's command word stand (R91 to R93). -/

namespace Sys2Proof.Laws.CommandWord

open Sys2Proof

/-- The word of `i` carries `i`'s opcode in bits 3:0 and zeros at every bit its format does not use. -/
def Statement (i : Instr) : Prop :=
  opcField (encode i) = i.op.code ∧ encode i &&& i.op.format.zmask = 0#32

theorem pullup (p : Pin) : Statement (.pullup p) := by
  revert p
  unfold Statement
  decide

theorem setdir (p : Pin) (d : Dir) : Statement (.setdir p d) := by
  revert p
  unfold Statement
  cases d <;> decide

theorem setlvl (p : Pin) (l : Level) : Statement (.setlvl p l) := by
  revert p
  unfold Statement
  cases l <;> decide

theorem rdlvl (p : Pin) : Statement (.rdlvl p) := by
  revert p
  unfold Statement
  decide

theorem init (p : Pin) : Statement (.init p) := by
  revert p
  unfold Statement
  decide

theorem capt (p : Pin) (n : BitVec 6) : Statement (.capt p n) := by
  constructor
  · simp only [opcField, encode, Instr.op, Op.code]
    ext j hj
    interval_cases j <;> simp
  · simp only [encode, Instr.op, Op.format, Format.zmask]
    ext j hj
    interval_cases j <;> simp

theorem dec : Statement .dec := by
  unfold Statement
  decide

theorem fin : Statement .fin := by
  unfold Statement
  decide

theorem acq (p : Pin) : Statement (.acq p) := by
  revert p
  unfold Statement
  decide

end Sys2Proof.Laws.CommandWord
end

