-- ==== Sys2Proof/Laws/Surface.lean ====
section
/-! SUPPORT. What a write to each register role does to the surface, where the seven roles are seven
registers (R62, R71), and the small facts about one-hot words and the function-select field. -/

namespace Sys2Proof.Machine

/-- The surface indices as inequalities (R69). -/
theorem indices_lt {c : Params} (h : c.indicesLegal = true) (p : Pin) :
    fselIndex c p < Config.surfWords ∧ c.idxSet < Config.surfWords ∧ c.idxClr < Config.surfWords
      ∧ c.idxLev < Config.surfWords ∧ c.idxEds < Config.surfWords ∧ c.idxPud < Config.surfWords
      ∧ c.idxPudclk < Config.surfWords := by
  simp only [Params.indicesLegal, Bool.and_eq_true, decide_eq_true_eq] at h
  have := p.isLt
  simp only [fselIndex]
  omega

/-- No role of the surface is one of the function-select registers, and no two roles share an index. -/
theorem indices_apart {c : Params} (h : c.indicesDistinct = true) :
    (∀ idx ∈ [c.idxSet, c.idxClr, c.idxLev, c.idxEds, c.idxPud, c.idxPudclk],
        ¬(c.idxFsel ≤ idx ∧ idx < c.idxFsel + 4))
      ∧ [c.idxSet, c.idxClr, c.idxLev, c.idxEds, c.idxPud, c.idxPudclk].Nodup := by
  replace h : c.indices.Nodup := by simpa only [Params.indicesDistinct, decide_eq_true_eq] using h
  simp only [Params.indices, List.nodup_cons, List.mem_cons, List.not_mem_nil, or_false, not_or] at h
  refine ⟨?_, ?_⟩
  · simp only [List.mem_cons, List.not_mem_nil, or_false]
    rintro idx hi hc
    have e : idx = c.idxFsel ∨ idx = c.idxFsel + 1 ∨ idx = c.idxFsel + 2 ∨ idx = c.idxFsel + 3 := by
      clear h hi
      omega
    rcases hi with rfl | rfl | rfl | rfl | rfl | rfl <;> rcases e with e | e | e | e <;> simp [e] at h
  · simp only [List.nodup_cons, List.mem_cons, List.not_mem_nil, or_false, not_or]
    tauto

/-- A write to the function-select register of a pin changes that register alone (R71, first row). -/
theorem absorb_fsel (c : Params) (p : Pin) (v : Word) (g : Surface) :
    g.absorb c (fselIndex c p) v = { g with fsel := g.fsel.setIfInBounds (p.toNat / 10) v } := by
  have := p.isLt
  unfold Surface.absorb
  rw [if_pos (by simp only [fselIndex]; omega)]
  simp [fselIndex]

/-- No write of OWPE changes the level register (R71). -/
@[simp] theorem absorb_line (c : Params) (idx : Nat) (v : Word) (g : Surface) :
    (g.absorb c idx v).line = g.line := by
  unfold Surface.absorb
  repeat' split
  all_goals rfl

theorem absorb_set {c : Params} (h : c.indicesDistinct = true) (v : Word) (g : Surface) :
    g.absorb c c.idxSet v = { g with latch := g.latch ||| v } := by
  have h1 := (indices_apart h).1 c.idxSet (by simp)
  simp [Surface.absorb, h1]

theorem absorb_clr {c : Params} (h : c.indicesDistinct = true) (v : Word) (g : Surface) :
    g.absorb c c.idxClr v = { g with latch := g.latch &&& ~~~v } := by
  have h1 := (indices_apart h).1 c.idxClr (by simp)
  have h2 := (indices_apart h).2
  simp only [List.nodup_cons, List.mem_cons, List.not_mem_nil, or_false, not_or] at h2
  simp [Surface.absorb, h1, Ne.symm h2.1.1]

theorem absorb_eds {c : Params} (h : c.indicesDistinct = true) (v : Word) (g : Surface) :
    g.absorb c c.idxEds v = { g with eds := g.eds &&& ~~~v } := by
  have h1 := (indices_apart h).1 c.idxEds (by simp)
  have h2 := (indices_apart h).2
  simp only [List.nodup_cons, List.mem_cons, List.not_mem_nil, or_false, not_or] at h2
  simp [Surface.absorb, h1, Ne.symm h2.1.2.2.1, Ne.symm h2.2.1.2.1]

theorem absorb_pud {c : Params} (h : c.indicesDistinct = true) (v : Word) (g : Surface) :
    g.absorb c c.idxPud v = { g with pud := v } := by
  have h1 := (indices_apart h).1 c.idxPud (by simp)
  have h2 := (indices_apart h).2
  simp only [List.nodup_cons, List.mem_cons, List.not_mem_nil, or_false, not_or] at h2
  simp [Surface.absorb, h1, Ne.symm h2.1.2.2.2.1, Ne.symm h2.2.1.2.2.1, Ne.symm h2.2.2.2.1.1]

theorem absorb_pudclk {c : Params} (h : c.indicesDistinct = true) (v : Word) (g : Surface) :
    g.absorb c c.idxPudclk v =
      { g with pudclk := v, pull := latchPull g.pud v g.pull } := by
  have h1 := (indices_apart h).1 c.idxPudclk (by simp)
  have h2 := (indices_apart h).2
  simp only [List.nodup_cons, List.mem_cons, List.not_mem_nil, or_false, not_or] at h2
  simp [Surface.absorb, h1, Ne.symm h2.1.2.2.2.2, Ne.symm h2.2.1.2.2.2, Ne.symm h2.2.2.2.1.2,
    Ne.symm h2.2.2.2.2.1]

/-- The bits of a one-hot word (R121). -/
theorem getLsbD_oneHot (p : Pin) (j : Nat) : (oneHot p).getLsbD j = decide (j = p.toNat) := by
  have hp := p.isLt
  simp only [oneHot, BitVec.getLsbD_shiftLeft, BitVec.getLsbD_one]
  by_cases h : j = p.toNat
  · subst h
    simp
    omega
  · simp [h]
    omega

/-- A one-hot clock word latches no pin but its own (R71, last row). -/
theorem latchPull_oneHot (code : Word) (p : Pin) (pull : Vector Word 32) (q : Fin 32)
    (h : q.val ≠ p.toNat) : (latchPull code (oneHot p) pull)[q] = pull[q] := by
  have h1 : (oneHot p)[q.val] = false := by
    rw [← BitVec.getLsbD_eq_getElem, getLsbD_oneHot]
    simpa using h
  simp [latchPull, h1]

/-- A one-hot clock word latches the code into its own pin, whatever the clock register held before: the
latch sequence takes effect again after one that was cut short (R72, R242). -/
theorem latchPull_own (code : Word) (p : Pin) (pull : Vector Word 32) :
    (latchPull code (oneHot p) pull)[p.toNat]'p.isLt = code := by
  have h1 : (oneHot p)[p.toNat]'p.isLt = true := by
    rw [← BitVec.getLsbD_eq_getElem, getLsbD_oneHot]
    simp
  simp [latchPull, h1]

/-- A clock word of zeros latches no pin (R71, last row). -/
theorem latchPull_zero (code : Word) (pull : Vector Word 32) :
    latchPull code 0#32 pull = pull := by
  ext i hi
  simp [latchPull]

/-- The function code of the pin whose field was just replaced (R122). -/
theorem code_after_insert (c : Params) (g : Surface) (old : Word) (p : Pin) (code : BitVec 3) :
    (g.absorb c (fselIndex c p) (fselInsert old p code)).code p = code := by
  have hp := p.isLt
  rw [absorb_fsel]
  have h4 : p.toNat / 10 < 4 := by omega
  have hs : fselShift p ≤ 27 := by simp only [fselShift]; omega
  simp only [Surface.code]
  rw [Vector.getElem?_eq_getElem h4]
  simp only [Vector.getElem_setIfInBounds_self, Option.getD_some]
  simp only [fselInsert, fselMask]
  generalize fselShift p = sh at hs
  apply BitVec.eq_of_getLsbD_eq
  intro j hj
  have h7 : (7#32).getLsbD j = true := by interval_cases j <;> rfl
  simp [hj, h7, show sh + j < 32 by omega]

end Sys2Proof.Machine
end

