-- ==== Sys2Proof/Laws/Runs.lean ====
section
/-! SUPPORT. How runs compose, and what one micro-step does when the port is ready, in the words of
Sys2Proof/Safety.lean. -/

namespace Sys2Proof.Machine

/-! ### Runs -/

theorem runFor_zero (s : State) : runFor 0 s = .next s := rfl

theorem runFor_succ {n : Nat} {s t : State} (h : step s = .next t) :
    runFor (n + 1) s = runFor n t := by
  have hc : Sys2Proof.core.step s = .next t := h
  simp only [runFor, Host.Core.run, hc]
  rfl

theorem runFor_fault {n : Nat} {s : State} {r : Fault} (h : step s = .fault r) :
    runFor (n + 1) s = .fault r := by
  have hc : Sys2Proof.core.step s = .fault r := h
  simp only [runFor, Host.Core.run, hc]
  rfl

theorem runFor_refused {n : Nat} {s : State} {r : Refusal} (h : step s = .refused r) :
    runFor (n + 1) s = .refused r := by
  have hc : Sys2Proof.core.step s = .refused r := h
  simp only [runFor, Host.Core.run, hc]
  rfl

/-- Two runs one after the other are one run. -/
theorem runFor_add {m n : Nat} {s t : State} (h : runFor m s = .next t) :
    runFor (m + n) s = runFor n t := by
  induction m generalizing s with
  | zero =>
    cases h
    simp
  | succ m ih =>
    rw [Nat.add_right_comm]
    cases hs : step s with
    | next u =>
      rw [runFor_succ hs] at h ⊢
      exact ih h
    | fault r =>
      rw [runFor_fault hs] at h
      cases h
    | refused r =>
      rw [runFor_refused hs] at h
      cases h

/-- Undisturbed, a step is the ENGINE's (R38). -/
theorem step_undisturbed {s : State} {i : Instr} (hu : s.undisturbed) (hi : s.inFlight = some i) :
    step s = exec i s := step_engine hu.1 hi

/-! ### One micro-step -/

/-- A command issued while idle is accepted (R96), whichever it is. -/
theorem exec_idle (i : Instr) {s : State} (h : s.seq = .idle) :
    exec i s = .next (acceptWord (encode i) s) := by
  cases i <;> exact runCommand_idle h

/-- What is in flight has its opcode in SEQ (R38). -/
theorem seq_of_inFlight {s : State} {i : Instr} (h : s.inFlight = some i) :
    ∃ k b, s.seq = .run i.op k b := by
  obtain ⟨op, k, b, hs, rfl⟩ := State.inFlight_eq_some h
  exact ⟨k, b, by cases op <;> exact hs⟩

theorem regWrite_ready {s : State} {idx : Nat} {v : Word} (h : s.portReady)
    (hi : idx < Config.surfWords) :
    regWrite idx v State.advance s = .next (s.afterWrite idx v) := by
  rw [regWrite_ok hi h.1]
  rfl

theorem regRead_ready {s : State} {idx : Nat} (h : s.portReady) (hi : idx < Config.surfWords) :
    regRead idx State.advance s = .next (s.afterRead idx) := by
  rw [regRead_ok hi h.1]
  rfl

theorem wait_eq {s : State} {d : Nat} : wait d s = .next (s.afterWait d) := by
  by_cases hs : s.sub = 0
  · rw [wait_begin hs]
    simp [State.afterWait, hs, State.observed, State.within]
  · rw [wait_poll hs]
    simp only [State.afterWait, hs, if_false]
    split <;> rfl

/-- The vector after an edge, without the proof that the index is in range (R30). -/
theorem ts_set_eq (s : State) (h : s.edgecnt.toNat < 42) (x : Timestamp) :
    s.ts.set s.edgecnt.toNat x h = s.ts.setIfInBounds s.edgecnt.toNat x := by
  ext j hj
  all_goals simp [Vector.getElem_set, Vector.getElem_setIfInBounds]

/-! ### The bodies in flight (R140, R150, R200) -/

/-- Micro-steps 1 to 14 of INIT and ACQ are one body (R200). -/
theorem exec_initiate {p : Pin} {i : Instr} {s : State} {k b : Nat} (h : i = .init p ∨ i = .acq p)
    (hk : k ≤ 14) (hs : s.seq = .run i.op k b) (hi : s.inFlight = some i) :
    exec i s = initiateStep p k s := by
  rcases h with rfl | rfl
  · simp only [exec, execInit]
    rw [runCommand_inFlight hs hi]
    unfold initStep
    split
    · omega
    · rfl
  · simp only [exec, execAcq]
    rw [runCommand_inFlight hs hi]
    unfold acqStep
    split <;> first | omega | rfl

/-- Steps 1 to 7 of CAPT and of ACQ's capture stage are one body (R200). -/
theorem exec_capture {p : Pin} {n : BitVec 6} {i : Instr} {base j b : Nat} {s : State}
    (h : (i = .capt p n ∧ base = 0) ∨ (i = .acq p ∧ n = 42#6 ∧ base = 14)) (h1 : 1 ≤ j) (h7 : j ≤ 7)
    (hs : s.seq = .run i.op (base + j) b) (hi : s.inFlight = some i) :
    exec i s =
      captureStep p n (if i = .capt p n then State.complete else State.goto 23) j s := by
  rcases h with ⟨rfl, rfl⟩ | ⟨rfl, rfl, rfl⟩
  · simp only [exec, execCapt]
    rw [runCommand_inFlight hs hi]
    unfold captStep
    split
    · omega
    · simp
  · simp only [exec, execAcq]
    rw [runCommand_inFlight hs hi]
    interval_cases j <;> simp [acqStep]

/-! ### The end of a run (R256) -/

/-- A run has ended exactly when no host move is left and SEQ is idle (R24, R256). -/
theorem runEnded_iff (s : State) :
    s.runEnded = true ↔ (∀ m ∈ s.env.script, m.byHost = false) ∧ s.seq = .idle := by
  simp [State.runEnded, State.busy_eq_false_iff]

/-- Every line of a host program is a host move (R106). -/
@[simp] theorem HostLine.move_byHost (l : HostLine) : l.move.byHost = true := by
  cases l <;> rfl

/-- A host program about to run has ended only if it has no lines and OWPE is idle (R256). -/
theorem withProgram_runEnded (lines : List HostLine) (s : State) :
    (s.withProgram lines).runEnded = true ↔ lines = [] ∧ s.seq = .idle := by
  rw [runEnded_iff]
  cases lines <;> simp [State.withProgram, State.withScript]

/-! ### The granularity of the timebase (R7, R252) -/

/-- Elapsed time adds up (R12). -/
theorem elapsedNs_add (a b c : Timestamp) : elapsedNs a b + elapsedNs b c = elapsedNs a c := by
  simp only [elapsedNs]
  ring

/-- The legal range of `TB_RES_NS` holds of the open value (R7). -/
theorem tbResOpen_legal : 1 ≤ Config.tbResOpen ∧ Config.tbResOpen ≤ 1000 := by
  have := Config.tbResBelow.isLt
  simp only [Config.tbResOpen]
  omega

/-- A wait on a timebase of granularity `TB_RES_NS` overshoots its duration by less than that (R252). -/
theorem wait_overshoot {c : Params} {d : Nat} {start last : Timestamp} {polls : List Timestamp}
    (hd : 0 < d) (hw : waitObservations d start polls last)
    (hg : granular c (start :: polls ++ [last])) :
    elapsedNs start last < (d : Int) + (c.tbResNs : Int) := by
  have key : ∀ (l : List Timestamp) (x : Timestamp), elapsedNs start x < (d : Int) →
      (∀ t ∈ l, elapsedNs start t < (d : Int)) → granular c (x :: l ++ [last]) →
      elapsedNs start last < (d : Int) + (c.tbResNs : Int) := by
    intro l
    induction l with
    | nil =>
      intro x hx _ hg
      have := elapsedNs_add start x last
      simp only [granular, List.nil_append, List.cons_append, List.isChain_cons_cons] at hg
      have := hg.1
      omega
    | cons y l ih =>
      intro x _ hl hg
      simp only [granular, List.cons_append, List.isChain_cons_cons] at hg
      exact ih y (hl y (by simp)) (fun t ht => hl t (by simp [ht])) hg.2
  exact key polls start (by simp only [elapsedNs]; omega) hw.1 hg

/-! ### Packing (R173) -/

/-- One packed bit goes to its own place and leaves the other thirty-nine (R173). -/
theorem getLsbD_packBit (b : Nat) (v : Bool) (payload : Vector Byte 5) (j i : Nat) (hb : b < 40)
    (hj : j < 5) (hi : i < 8) :
    (packBit b v payload)[j].getLsbD i =
      if j = 4 - b / 8 ∧ i = 7 - b % 8 then (payload[j].getLsbD i || v)
      else payload[j].getLsbD i := by
  unfold packBit
  rw [Vector.getElem?_eq_getElem (show 4 - b / 8 < 5 by omega)]
  simp only [Option.getD_some]
  by_cases hjb : j = 4 - b / 8
  · subst hjb
    simp only [Vector.getElem_setIfInBounds_self, true_and]
    by_cases hib : i = 7 - b % 8
    · subst hib
      simp [hi]
    · cases v <;> simp [hi, hib]
      intro
      omega
  · rw [Vector.getElem_setIfInBounds_ne _ (fun h => hjb h.symm)]
    simp [hjb]

end Sys2Proof.Machine
end

