-- ==== Sys2Proof/Tests/Slice0.lean ====
section
/-! SUPPORT. The model's own tests: well-formedness, decoding, one micro-step at a time against the vectors
of 95_test_vectors.md, and a witness for every statement that has hypotheses. -/

namespace Sys2Proof.Tests

open Sys2Proof Sys2Proof.Machine

/-! ### Helpers -/

/-- `i` in flight at micro-step `k`, sub-position `b`, issued from reset. -/
def at_ (i : Instr) (k b : Nat) : State :=
  { acceptWord (encode i) State.reset with seq := .run i.op k b }

/-- The reset state with these moves to come. -/
def moves (l : List Move) : State := State.reset.withScript l

/-- `s` with these answers of the timebase to come. -/
def times (l : List Timestamp) (s : State) : State := { s with env := { s.env with times := l } }

/-- `s` with these read answers to come. -/
def reads (l : List Word) (s : State) : State := { s with env := { s.env with reads := l } }

/-- What a step left, where it has a next state. -/
def left {α : Type} (f : State → α) (o : Outcome) : Option α :=
  match o with
  | .next t => some (f t)
  | _ => none

/-! ### Well-formedness and decoding -/

/-- R95 (c): an edge count above the buffer is ill formed, and its word is refused by name. -/
theorem test_wellFormed_refuses : Instr.wellFormed (.capt 4#5 43#6) = false
    ∧ Instr.wellFormed (.capt 4#5 63#6) = false ∧ Instr.wellFormed (.capt 4#5 42#6) = true
    ∧ decode (encode (.capt 4#5 43#6)) = .error .tooManyEdges := by decide

/-- V-ENC-1, each word written out bit by bit from R91: OPC 3:0, PIN 12:8, ARG 16, MAXEDGES 29:24. -/
theorem test_decode_pin_words :
    decode 0b00000000000000000000010000000001#32 = .ok (.pullup 4#5)
    ∧ decode 0b00000000000000010000010000000010#32 = .ok (.setdir 4#5 .output)
    ∧ decode 0b00000000000000000000010000000010#32 = .ok (.setdir 4#5 .input)
    ∧ decode 0b00000000000000010001111100000011#32 = .ok (.setlvl 31#5 .high)
    ∧ decode 0b00000000000000000000010000000011#32 = .ok (.setlvl 4#5 .low)
    ∧ decode 0b00000000000000000001111100000100#32 = .ok (.rdlvl 31#5)
    ∧ decode 0b00000000000000000000010000000101#32 = .ok (.init 4#5) := by decide

theorem test_decode_data_words :
    decode 0b00101010000000000000010000000110#32 = .ok (.capt 4#5 42#6)
    ∧ decode 0b00000010000000000001000100000110#32 = .ok (.capt 17#5 2#6)
    ∧ decode 0b00000000000000000000010000000110#32 = .ok (.capt 4#5 0#6)
    ∧ decode 0b00000000000000000000000000000111#32 = .ok .dec
    ∧ decode 0b00000000000000000000000000001000#32 = .ok .fin
    ∧ decode 0b00000000000000000000010000001001#32 = .ok (.acq 4#5) := by decide

/-- V-ENC-2: every illegal word of the table is refused, by name. -/
theorem test_decode_illegal :
    decode 0x00000000#32 = .error .reservedOpcode ∧ decode 0x0000000A#32 = .error .reservedOpcode
    ∧ decode 0x0000000F#32 = .error .reservedOpcode ∧ decode 0x00000017#32 = .error .nonzeroField
    ∧ decode 0x00000407#32 = .error .nonzeroField ∧ decode 0x80000008#32 = .error .nonzeroField
    ∧ decode 0x00010401#32 = .error .nonzeroField ∧ decode 0x00010409#32 = .error .nonzeroField
    ∧ decode 0x01000405#32 = .error .nonzeroField ∧ decode 0x00002004#32 = .error .nonzeroField
    ∧ decode 0x00020402#32 = .error .nonzeroField ∧ decode 0x40000406#32 = .error .nonzeroField
    ∧ decode 0x2B000406#32 = .error .tooManyEdges ∧ decode 0x3F000406#32 = .error .tooManyEdges := by
  decide

/-- The mask and match of each row of spec/opcode_table.json. -/
def tableRows : List (Word × Word) :=
  [(0xFFFFE0FF#32, 1#32), (0xFFFEE0FF#32, 2#32), (0xFFFEE0FF#32, 3#32), (0xFFFFE0FF#32, 4#32),
    (0xFFFFE0FF#32, 5#32), (0xC0FFE0FF#32, 6#32), (0xFFFFFFFF#32, 7#32), (0xFFFFFFFF#32, 8#32),
    (0xFFFFE0FF#32, 9#32)]

/-- No two rows of the opcode table share a word: their fixed bits differ where both fix them. -/
theorem test_table_rows_apart :
    tableRows.Pairwise (fun a b => a.1 &&& b.1 &&& (a.2 ^^^ b.2) ≠ 0#32) := by decide

/-- The decoder reads the table's rows (a match with every other bit 0). -/
theorem test_table_words :
    (List.range' 1 9).map (decodeTableWord 32) =
      [some (.pullup 0#5), some (.setdir 0#5 .input), some (.setlvl 0#5 .low), some (.rdlvl 0#5),
        some (.init 0#5), some (.capt 0#5 0#6), some .dec, some .fin, some (.acq 0#5)] := by decide

/-- The first step after reset runs the word placed for it (R96). -/
theorem test_fetch_word :
    left (fun t => (t.cmd, t.seq, t.pinl, t.maxe, t.inFlight))
        (step (State.reset.withFetchWord 32 0x00000409))
      = some (0x00000409#32, .run .acq 1 0, 4#5, 42#6, some (.acq 4#5)) := by decide

/-! ### The host window (V-HOST-1, V-ENC-3) -/

theorem test_host_reads :
    State.reset.hostWord 0x00#8 = 0#32 ∧ State.reset.hostWord 0x01#8 = 0#32
    ∧ State.reset.hostWord 0x03#8 = 0x001E8480#32 ∧ State.reset.hostWord 0x93#8 = 0#32
    ∧ State.reset.hostWord 0x3F#8 = 0#32 ∧ State.reset.hostWord 0x94#8 = 0#32
    ∧ State.reset.hostWord 0xFF#8 = 0#32
    ∧ (hostWrite 0x02#8 0xFFFFFFFF#32 State.reset).hostWord 0x02#8 = 3#32
    ∧ (hostWrite 0x02#8 2#32 State.reset).hostWord 0x02#8 = 2#32
    ∧ (hostWrite 0x03#8 0xFFFFFFFF#32 State.reset).hostWord 0x03#8 = 0xFFFFFFFF#32
    ∧ (hostWrite 0x06#8 0x12345678#32 State.reset).hostWord 0x06#8 = 0#32 := by decide

/-- V-HOST-2: a running command shows BUSY, a dropped write REJ. -/
theorem test_host_busy :
    (at_ (.acq 4#5) 11 1).hostWord 0x01#8 = 1#32
    ∧ (hostWrite 0x03#8 5#32 (at_ (.acq 4#5) 11 1)).hostWord 0x01#8 = 9#32
    ∧ (hostWrite 0x03#8 5#32 (at_ (.acq 4#5) 11 1)).hostWord 0x03#8 = 0x001E8480#32 := by decide

/-- V-ENC-3: legality before FATAL before `surface_ok`; DEC does not touch the surface. -/
theorem test_acceptance_order :
    (acceptWord 0#32 State.reset).statusWord = 0x00000502#32
    ∧ (acceptWord 0#32 { State.reset with fatal := true }).statusWord = 0x00000506#32
    ∧ (acceptWord 7#32 { State.reset with fatal := true }).statusWord = 0x00000106#32
    ∧ (acceptWord 0x404#32 { State.reset with env := { Env.reset with surfaceOk := false } }).statusWord
        = 0x00000106#32
    ∧ (acceptWord 7#32 { State.reset with env := { Env.reset with surfaceOk := false } }).seq
        = .run .dec 1 0 := by decide

/-- R256: a run ends with no host line left and OWPE idle, whatever the other agents have still to do; a
state with BUSY = 1 is not final. -/
theorem test_run_ended :
    (moves [.engine, .line 0x10#32, .flags 1#32, .master 0 0#32, .reset]).runEnded = true
    ∧ (moves [.engine, .poll]).runEnded = false ∧ (moves [.line 0#32, .read 1#8]).runEnded = false
    ∧ (moves [.write 0#8 7#32]).runEnded = false ∧ (at_ .dec 1 0).runEnded = false := by decide

/-! ### One or two micro-steps of each command -/

/-- V-PIN-1: `PULLUP 31` clocks the one-hot word of its pin; R72, R242: where a reset has left the clock
bit up, the clock write latches the code all the same. -/
theorem test_pullup_clock :
    left State.trace (exec (.pullup 31#5) (at_ (.pullup 31#5) 3 0))
      = some [.write 38 0x80000000#32]
    ∧ left (fun t => t.surf.pull[4]) (exec (.pullup 4#5)
        { at_ (.pullup 4#5) 3 0 with surf := { Surface.reset with pud := 2#32, pudclk := 0x10#32 } })
      = some 2#32 := by decide

/-- V-PIN-1: the second wait: 4 500 ns do not end it, 10 000 ns do. -/
theorem test_pullup_wait :
    left State.seq (exec (.pullup 4#5)
        (times [⟨10#32, 15000#32⟩] { at_ (.pullup 4#5) 4 1 with tw := ⟨10#32, 10500#32⟩ }))
      = some (.run .pullup 4 1)
    ∧ left State.seq (exec (.pullup 4#5)
        (times [⟨10#32, 20500#32⟩] { at_ (.pullup 4#5) 4 1 with tw := ⟨10#32, 10500#32⟩ }))
      = some (.run .pullup 5 0) := by decide

/-- V-PIN-2: the written words. -/
theorem test_setdir_words :
    fselInsert 0x3FFFFFFF#32 4#5 0b001#3 = 0x3FFF9FFF#32
    ∧ fselInsert 0x3FFFFFFF#32 4#5 0b000#3 = 0x3FFF8FFF#32
    ∧ fselInsert 0x00024000#32 4#5 0b001#3 = 0x00021000#32
    ∧ fselInsert 0xDEADBEEF#32 0#5 0b001#3 = 0xDEADBEE9#32
    ∧ fselInsert 0xFFFFFFFF#32 9#5 0b001#3 = 0xCFFFFFFF#32
    ∧ fselInsert 0xC0000007#32 20#5 0b001#3 = 0xC0000001#32
    ∧ fselInsert 0x38000000#32 29#5 0b000#3 = 0#32
    ∧ fselInsert 0xFFFFFFFF#32 31#5 0b000#3 = 0xFFFFFFC7#32 := by decide

/-- V-PIN-2: `SETDIR 17, OUT` writes 0x00200000 to the second function-select register. -/
theorem test_setdir_write :
    left State.trace (exec (.setdir 17#5 .output) (at_ (.setdir 17#5 .output) 2 0))
      = some [.write 1 0x00200000#32] := by decide

/-- V-PIN-3. -/
theorem test_setlvl_writes :
    left State.trace (exec (.setlvl 31#5 .high) (at_ (.setlvl 31#5 .high) 1 0))
      = some [.write 7 0x80000000#32]
    ∧ left State.trace (exec (.setlvl 0#5 .low) (at_ (.setlvl 0#5 .low) 1 0))
      = some [.write 10 1#32] := by decide

/-- V-PIN-4: LEVEL is the pin's own bit; STATUS after the end. -/
theorem test_rdlvl_level :
    left State.level (exec (.rdlvl 4#5) { at_ (.rdlvl 4#5) 2 0 with tmp := 0xFFFFFFEF#32 }) = some false
    ∧ left State.level (exec (.rdlvl 31#5) { at_ (.rdlvl 31#5) 2 0 with tmp := 0x80000000#32 })
      = some true
    ∧ left State.statusWord (exec (.rdlvl 4#5) { at_ (.rdlvl 4#5) 3 0 with level := true })
      = some 0x00000082#32 := by decide

/-- V-INIT-1: the two function-select writes use the read just before. -/
theorem test_init_writes :
    left State.trace (exec (.init 4#5) { at_ (.init 4#5) 9 0 with tmp := 0x00024000#32 })
      = some [.write 0 0x00021000#32]
    ∧ left State.trace (exec (.init 4#5) { at_ (.init 4#5) 14 0 with tmp := 0x00024000#32 })
      = some [.write 0 0x00020000#32] := by decide

/-- R140, R141: pre-arm high, drive low, release high. -/
theorem test_init_levels :
    left State.trace (exec (.init 4#5) (at_ (.init 4#5) 7 0)) = some [.write 7 0x10#32]
    ∧ left State.trace (exec (.init 4#5) (at_ (.init 4#5) 10 0)) = some [.write 10 0x10#32]
    ∧ left State.trace (exec (.init 4#5) (at_ (.init 4#5) 12 0)) = some [.write 7 0x10#32] := by decide

/-- V-CAP-3: the deadline is strict. -/
theorem test_capt_deadline :
    left State.seq (exec (.capt 4#5 42#6)
        (times [⟨200#32, 1000000#32⟩]
          { at_ (.capt 4#5 42#6) 5 0 with t0 := ⟨200#32, 0#32⟩, timeout := 1000#32 }))
      = some (.run .capt 6 0)
    ∧ left State.statusWord (exec (.capt 4#5 42#6)
        (times [⟨200#32, 1000001#32⟩]
          { at_ (.capt 4#5 42#6) 5 0 with t0 := ⟨200#32, 0#32⟩, timeout := 1000#32 }))
      = some 0x00000212#32 := by decide

/-- V-CAP-2, iteration 1: a line already low counts as edge 0. -/
theorem test_capt_first_edge :
    left (fun t => (t.ts[0], t.edgecnt, t.seq)) (exec (.capt 4#5 3#6)
        (times [⟨50#32, 2000#32⟩] { at_ (.capt 4#5 3#6) 6 1 with prev := true }))
      = some (⟨50#32, 2000#32⟩, 1#6, .run .capt 6 2) := by decide

/-- V-INT: the bit of single intervals, the borrow and the boundary; V-DEC-7: DEC after 41 edges. -/
theorem test_dec_intervals :
    intervalBit 100 ⟨5#32, 0#32⟩ ⟨5#32, 100999#32⟩ = false
    ∧ intervalBit 100 ⟨5#32, 0#32⟩ ⟨5#32, 101000#32⟩ = true
    ∧ intervalBit 100 ⟨5#32, 999950000#32⟩ ⟨6#32, 20000#32⟩ = false
    ∧ intervalBit 100 ⟨5#32, 999950000#32⟩ ⟨6#32, 70000#32⟩ = true
    ∧ intervalBit 100 ⟨5#32, 999900000#32⟩ ⟨6#32, 0#32⟩ = false
    ∧ intervalBit 100 ⟨5#32, 500#32⟩ ⟨6#32, 500#32⟩ = true
    ∧ intervalBit 100 ⟨6#32, 0#32⟩ ⟨5#32, 999999000#32⟩ = true
    ∧ intervalBit 100 ⟨7#32, 0#32⟩ ⟨5#32, 50000#32⟩ = false
    ∧ intervalBit 100 ⟨6#32, 50000#32⟩ ⟨6#32, 0#32⟩ = true
    ∧ left State.statusWord (exec .dec { at_ .dec 1 0 with edgecnt := 41#6 })
      = some 0x00290302#32 := by decide

/-- The 42 timestamps of V-DEC-1. -/
def frameOfS6 : Vector Timestamp 42 :=
  #v[
    ⟨100#32, 999000000#32⟩, ⟨100#32, 999160000#32⟩, ⟨100#32, 999230000#32⟩, ⟨100#32, 999300000#32⟩, ⟨100#32, 999370000#32⟩, ⟨100#32, 999440000#32⟩,
    ⟨100#32, 999510000#32⟩, ⟨100#32, 999580000#32⟩, ⟨100#32, 999650000#32⟩, ⟨100#32, 999770000#32⟩, ⟨100#32, 999890000#32⟩, ⟨101#32, 10000#32⟩,
    ⟨101#32, 80000#32⟩, ⟨101#32, 150000#32⟩, ⟨101#32, 220000#32⟩, ⟨101#32, 340000#32⟩, ⟨101#32, 460000#32⟩, ⟨101#32, 580000#32⟩,
    ⟨101#32, 650000#32⟩, ⟨101#32, 720000#32⟩, ⟨101#32, 790000#32⟩, ⟨101#32, 860000#32⟩, ⟨101#32, 930000#32⟩, ⟨101#32, 1000000#32⟩,
    ⟨101#32, 1070000#32⟩, ⟨101#32, 1140000#32⟩, ⟨101#32, 1260000#32⟩, ⟨101#32, 1380000#32⟩, ⟨101#32, 1500000#32⟩, ⟨101#32, 1620000#32⟩,
    ⟨101#32, 1740000#32⟩, ⟨101#32, 1810000#32⟩, ⟨101#32, 1930000#32⟩, ⟨101#32, 2000000#32⟩, ⟨101#32, 2120000#32⟩, ⟨101#32, 2240000#32⟩,
    ⟨101#32, 2310000#32⟩, ⟨101#32, 2380000#32⟩, ⟨101#32, 2450000#32⟩, ⟨101#32, 2520000#32⟩, ⟨101#32, 2640000#32⟩, ⟨101#32, 2710000#32⟩]

/-- V-DEC-1: the frame of the source's scenario decodes to its five bytes. -/
theorem test_dec_frame :
    frameDecode 100 frameOfS6 = #v[0xC2#8, 0xFA#8, 0x00#8, 0xC7#8, 0x01#8] := by decide +kernel

/-- V-FIN-2, V-FIN-3 and V-FIN-9: both sign tests, the largest fields. -/
theorem test_fin_fields :
    finalize #v[0xD0#8, 0x65#8, 0x80#8, 0xE8#8, 0x03#8] false = some ⟨1000#16, 101#15, true⟩
    ∧ finalize #v[0xD0#8, 0x65#8, 0x80#8, 0xE8#8, 0x03#8] true = some ⟨1000#16, 101#15, false⟩
    ∧ finalize #v[0x01#8, 0x00#8, 0x01#8, 0x00#8, 0x00#8] true = some ⟨0#16, 256#15, true⟩
    ∧ finalize #v[0xFC#8, 0xFF#8, 0xFF#8, 0xFF#8, 0xFF#8] false = some ⟨65535#16, 32767#15, true⟩
    ∧ finalize #v[0xC3#8, 0xFA#8, 0x00#8, 0xC7#8, 0x01#8] false = none := by decide

/-- V-FIN-1 as a command, and FIN from reset, which tests no checksum. -/
theorem test_fin_command :
    left State.resultWord (exec .fin
        { at_ .fin 1 0 with pvalid := true, payload := #v[0xC2#8, 0xFA#8, 0x00#8, 0xC7#8, 0x01#8] })
      = some 0x00FA01C7#32
    ∧ left State.statusWord (exec .fin (at_ .fin 1 0)) = some 0x00000602#32 := by decide

/-- R200: with 42 edges counted ACQ goes on to its decode stage; P4: a rejected payload ends it. -/
theorem test_acq_stages :
    left State.seq (exec (.acq 4#5) { at_ (.acq 4#5) 18 0 with edgecnt := 42#6 })
      = some (.run .acq 23 0)
    ∧ left State.statusWord (exec (.acq 4#5)
        { at_ (.acq 4#5) 24 0 with
          edgecnt := 42#6, pvalid := true, payload := #v[0xC3#8, 0xFA#8, 0x00#8, 0xC7#8, 0x01#8] })
      = some 0x002A0422#32 := by decide

/-- R194: the worked conversions. -/
theorem test_units :
    Reading.fahrenheitHundredths ⟨455#16, 250#15, false⟩ = 7700
    ∧ Reading.fahrenheitHundredths ⟨1000#16, 101#15, true⟩ = 1382
    ∧ Reading.fahrenheitHundredths ⟨65535#16, 32767#15, true⟩ = -586606 := by decide

/-! ### Witnesses: each statement's hypotheses are met together by a concrete state -/

theorem witness_DecodeEncodeRoundTrip :
    Instr.wellFormed (.capt 31#5 42#6) = true ∧ Instr.wellFormed .fin = true := by decide

theorem witness_EncodeDecodeRoundTrip : decode 0x2A001F06#32 = .ok (.capt 31#5 42#6) := by decide

/-- One state for each case: an illegal word, FATAL, an unreachable surface, a start. -/
theorem witness_CommandWriteWhileIdle :
    (moves [.write 0#8 0x2B000406#32]).env.script = [.write 0#8 0x2B000406#32]
    ∧ (moves [.write 0#8 0x2B000406#32]).seq = .idle
    ∧ decode 0x2B000406#32 = .error .tooManyEdges
    ∧ ({ moves [.write 0#8 7#32] with fatal := true } : State).fatal = true
    ∧ ({ State.reset with env := { Env.reset with surfaceOk := false } } : State).env.surfaceOk = false
    ∧ (0x409#32).extractLsb' 0 4 ≠ 0x7#4 ∧ (0x409#32).extractLsb' 0 4 ≠ 0x8#4 := by decide

theorem witness_CommandWriteWhileBusy :
    ((at_ (.acq 4#5) 11 1).withScript [.write 0#8 8#32]).env.script = [.write 0#8 8#32]
    ∧ ((at_ (.acq 4#5) 11 1).withScript [.write 0#8 8#32]).seq ≠ .idle := by decide

theorem witness_ConfigAndTimeoutWrites :
    (moves [.write 2#8 3#32]).env.script = [.write 2#8 3#32] ∧ (moves [.write 2#8 3#32]).seq = .idle
    ∧ ((at_ .dec 1 0).withScript [.write 3#8 5#32]).env.script = [.write 3#8 5#32]
    ∧ ((at_ .dec 1 0).withScript [.write 3#8 5#32]).seq ≠ .idle := by decide

/-- The reserved ranges at their ends, and writes of a read-only register and of a reserved offset. -/
theorem witness_ReservedAndReadOnlyOffsets :
    (∀ off ∈ [0x07#8, 0x3F#8, 0x94#8, 0xFF#8],
      (0x07 ≤ off.toNat ∧ off.toNat ≤ 0x3F) ∨ 0x94 ≤ off.toNat)
    ∧ ∀ off ∈ [0x01#8, 0x06#8, 0x40#8, 0x93#8, 0xFF#8],
      (moves [.write off 7#32]).env.script = [.write off 7#32] ∧ off ≠ 0x00#8 ∧ off ≠ 0x02#8
        ∧ off ≠ 0x03#8 := by decide

theorem witness_HostReadKeepsState :
    ((at_ .dec 1 0).withScript [.read 0x93#8]).env.script = [.read 0x93#8] := by decide

theorem witness_StepRunsTheCommand :
    ((moves [.write 0#8 0x409#32]).env.script = [.write 0#8 0x409#32]
      ∧ (moves [.write 0#8 0x409#32]).seq = .idle ∧ decode 0x409#32 = .ok (.acq 4#5))
    ∧ ((at_ (.acq 4#5) 1 0).env.script = [] ∧ (at_ (.acq 4#5) 1 0).inFlight = some (.acq 4#5))
    ∧ (((at_ (.acq 4#5) 1 0).withScript [.engine]).env.script = [.engine]
      ∧ ((at_ (.acq 4#5) 1 0).withScript [.engine]).inFlight = some (.acq 4#5)) := by decide

theorem witness_IdleEngineKeepsState :
    (State.reset.env.script = [] ∧ State.reset.seq = .idle)
    ∧ ((moves [.engine]).env.script = [.engine] ∧ (moves [.engine]).seq = .idle) := by decide

/-- A surface command with the surface reachable, and DEC with it unreachable. -/
theorem witness_EveryCommandStarts :
    (Instr.wellFormed (.capt 31#5 42#6) = true ∧ State.reset.seq = .idle ∧ State.reset.fatal = false
      ∧ State.reset.env.surfaceOk = true)
    ∧ Instr.wellFormed .dec = true
    ∧ ({ State.reset with env := { Env.reset with surfaceOk := false } } : State).seq = .idle := by decide

theorem witness_CommandsTurnedAway :
    (Instr.wellFormed .dec = true ∧ ({ State.reset with fatal := true } : State).seq = .idle)
    ∧ (Instr.wellFormed (.rdlvl 4#5) = true
      ∧ ({ State.reset with env := { Env.reset with surfaceOk := false } } : State).fatal = false)
    ∧ ((at_ (.acq 4#5) 11 1).seq ≠ .idle ∧ (at_ (.acq 4#5) 11 1).inFlight ≠ some .fin) := by decide

theorem witness_PullupMicroSteps (k b : Nat) :
    (at_ (.pullup 31#5) k b).portReady ∧ (at_ (.pullup 31#5) k b).inFlight = some (.pullup 31#5)
    ∧ (at_ (.pullup 31#5) k b).seq = .run .pullup k b := ⟨⟨rfl, rfl⟩, rfl, rfl⟩

/-- The observations of V-PIN-1. -/
theorem witness_PullupRun :
    (times [⟨10#32, 0#32⟩, ⟨10#32, 10000#32⟩, ⟨10#32, 10500#32⟩, ⟨10#32, 15000#32⟩, ⟨10#32, 20500#32⟩]
        (at_ (.pullup 4#5) 1 0)).undisturbed
    ∧ (at_ (.pullup 4#5) 1 0).inFlight = some (.pullup 4#5)
    ∧ waitObservations 10000 ⟨10#32, 0#32⟩ [] ⟨10#32, 10000#32⟩
    ∧ waitObservations 10000 ⟨10#32, 10500#32⟩ [⟨10#32, 15000#32⟩] ⟨10#32, 20500#32⟩ := by
  refine ⟨⟨rfl, rfl, by decide⟩, rfl, ⟨by simp, by decide⟩, ⟨?_, by decide⟩⟩
  simp only [List.mem_singleton, forall_eq]
  decide

theorem witness_SetdirMicroSteps (d : Dir) (k b : Nat) :
    (at_ (.setdir 31#5 d) k b).portReady
    ∧ (at_ (.setdir 31#5 d) k b).inFlight = some (.setdir 31#5 d)
    ∧ (at_ (.setdir 31#5 d) k b).seq = .run .setdir k b := by
  cases d <;> exact ⟨⟨rfl, rfl⟩, rfl, rfl⟩

/-- Pin 9's field is bits 29 to 27: its ends, and the bits next to it. -/
theorem witness_DirectionChangesOnlyItsField :
    (∀ j ∈ [27, 29], j < 32 ∧ fselShift 9#5 ≤ j ∧ j < fselShift 9#5 + 3)
    ∧ ∀ j ∈ [26, 30], j < 32 ∧ ¬(fselShift 9#5 ≤ j ∧ j < fselShift 9#5 + 3) := by decide

theorem witness_LostUpdate :
    ((at_ (.setdir 4#5 .output) 1 0).withScript [.engine, .master 0 7#32, .engine]).portReady
    ∧ ((at_ (.setdir 4#5 .output) 1 0).withScript [.engine, .master 0 7#32, .engine]).inFlight
        = some (.setdir 4#5 .output)
    ∧ ((at_ (.setdir 4#5 .output) 1 0).withScript [.engine, .master 0 7#32, .engine]).seq
        = .run .setdir 1 0
    ∧ (at_ (.setdir 4#5 .output) 1 0).cfg.idxFsel + (4#5).toNat / 10 = 0 :=
  ⟨⟨rfl, by decide⟩, rfl, rfl, rfl⟩

theorem witness_SetlvlMicroSteps (l : Level) (k b : Nat) :
    (at_ (.setlvl 31#5 l) k b).portReady
    ∧ (at_ (.setlvl 31#5 l) k b).inFlight = some (.setlvl 31#5 l)
    ∧ (at_ (.setlvl 31#5 l) k b).seq = .run .setlvl k b := by
  cases l <;> exact ⟨⟨rfl, rfl⟩, rfl, rfl⟩

theorem witness_RdlvlMicroSteps (k b : Nat) :
    (at_ (.rdlvl 31#5) k b).portReady ∧ (at_ (.rdlvl 31#5) k b).inFlight = some (.rdlvl 31#5)
    ∧ (at_ (.rdlvl 31#5) k b).seq = .run .rdlvl k b := ⟨⟨rfl, rfl⟩, rfl, rfl⟩

theorem witness_PinCommandRuns :
    ((at_ (.setdir 31#5 .input) 1 0).undisturbed
      ∧ (at_ (.setdir 31#5 .input) 1 0).inFlight = some (.setdir 31#5 .input))
    ∧ ((at_ (.setlvl 31#5 .high) 1 0).undisturbed
      ∧ (at_ (.setlvl 31#5 .high) 1 0).inFlight = some (.setlvl 31#5 .high))
    ∧ ((at_ (.rdlvl 31#5) 1 0).undisturbed
      ∧ (at_ (.rdlvl 31#5) 1 0).inFlight = some (.rdlvl 31#5)) :=
  ⟨⟨⟨rfl, rfl, by decide⟩, rfl⟩, ⟨⟨rfl, rfl, by decide⟩, rfl⟩, ⟨⟨rfl, rfl, by decide⟩, rfl⟩⟩

/-- Each of the four commands at a micro-step that has a next state. -/
theorem witness_PinCommandsFrame :
    State.reset.cfg.indicesDistinct = true
    ∧ ((at_ (.pullup 4#5) 3 0).inFlight = some (.pullup 4#5)
      ∧ ∃ t, exec (.pullup 4#5) (at_ (.pullup 4#5) 3 0) = .next t)
    ∧ ((at_ (.setdir 4#5 .output) 2 0).inFlight = some (.setdir 4#5 .output)
      ∧ ∃ t, exec (.setdir 4#5 .output) (at_ (.setdir 4#5 .output) 2 0) = .next t)
    ∧ ((at_ (.setlvl 4#5 .low) 1 0).inFlight = some (.setlvl 4#5 .low)
      ∧ ∃ t, exec (.setlvl 4#5 .low) (at_ (.setlvl 4#5 .low) 1 0) = .next t)
    ∧ ((at_ (.rdlvl 4#5) 2 0).inFlight = some (.rdlvl 4#5)
      ∧ ∃ t, exec (.rdlvl 4#5) (at_ (.rdlvl 4#5) 2 0) = .next t) :=
  ⟨by decide, ⟨rfl, _, rfl⟩, ⟨rfl, _, rfl⟩, ⟨rfl, _, rfl⟩, ⟨rfl, _, rfl⟩⟩

theorem witness_InitMicroSteps (k b : Nat) :
    ((at_ (.init 31#5) k b).portReady ∧ (at_ (.init 31#5) k b).inFlight = some (.init 31#5)
      ∧ (at_ (.init 31#5) k b).seq = .run .init k b)
    ∧ (at_ (.acq 31#5) k b).portReady ∧ (at_ (.acq 31#5) k b).inFlight = some (.acq 31#5)
      ∧ (at_ (.acq 31#5) k b).seq = .run .acq k b :=
  ⟨⟨⟨rfl, rfl⟩, rfl, rfl⟩, ⟨rfl, rfl⟩, rfl, rfl⟩

/-- The observations and read answers of V-INIT-1. -/
theorem witness_InitRun :
    (reads [0x24000#32, 0x24000#32]
        (times [⟨20#32, 0#32⟩, ⟨20#32, 10000#32⟩, ⟨20#32, 11000#32⟩, ⟨20#32, 21000#32⟩,
          ⟨20#32, 30000#32⟩, ⟨20#32, 2000000#32⟩, ⟨20#32, 5030000#32⟩] (at_ (.init 4#5) 1 0))).undisturbed
    ∧ (at_ (.init 4#5) 1 0).inFlight = some (.init 4#5)
    ∧ waitObservations 10000 ⟨20#32, 0#32⟩ [] ⟨20#32, 10000#32⟩
    ∧ waitObservations 10000 ⟨20#32, 11000#32⟩ [] ⟨20#32, 21000#32⟩
    ∧ waitObservations 5000000 ⟨20#32, 30000#32⟩ [⟨20#32, 2000000#32⟩] ⟨20#32, 5030000#32⟩ := by
  refine ⟨⟨rfl, rfl, by decide⟩, rfl, ⟨by simp, by decide⟩, ⟨by simp, by decide⟩, ⟨?_, by decide⟩⟩
  simp only [List.mem_singleton, forall_eq]
  decide

theorem witness_InitFrame :
    (at_ (.init 4#5) 10 0).cfg.indicesDistinct = true
    ∧ (at_ (.init 4#5) 10 0).inFlight = some (.init 4#5)
    ∧ ∃ t, exec (.init 4#5) (at_ (.init 4#5) 10 0) = .next t := ⟨by decide, rfl, _, rfl⟩

/-- `INIT 4`, just accepted from reset, meets the machine's invariant and the one of the start pulse. -/
theorem witness_init_inv : (at_ (.init 4#5) 1 0).Inv ∧ (at_ (.init 4#5) 1 0).pinOk := by
  refine ⟨⟨by decide, ?_, ⟨by decide, trivial⟩, ⟨fun _ => rfl, fun _ => ⟨rfl, rfl, rfl⟩, nofun, nofun,
    nofun⟩, ⟨nofun, nofun, nofun, nofun, nofun, nofun, nofun, nofun⟩, trivial⟩, ?_⟩
  · exact ⟨by decide, by decide, rfl, rfl, rfl, rfl, by decide, nofun, nofun⟩
  · refine ⟨?_, ?_, ?_, ?_, ?_⟩ <;> intros <;> contradiction

/-- A capture at its sample with two answers beyond the deadline to come meets it too. -/
def lateCapture : State :=
  times [⟨3#32, 0#32⟩, ⟨3#32, 5#32⟩] { at_ (.capt 4#5 42#6) 6 0 with prev := true }

theorem witness_capture_inv : lateCapture.Inv := by
  refine ⟨by decide, ?_, ⟨by decide, ?_⟩, ⟨fun _ => rfl, fun _ => ⟨rfl, rfl, rfl⟩, nofun, nofun,
    fun _ _ _ => ⟨rfl, rfl, rfl⟩⟩, ⟨nofun, nofun, nofun, nofun, nofun, nofun, nofun, nofun⟩, trivial⟩
  · exact ⟨by decide, by decide, rfl, rfl, rfl, rfl, by decide, fun _ => by decide, nofun⟩
  · exact ⟨fun _ => by decide, fun _ => rfl, nofun, fun _ _ => by decide⟩

theorem witness_StartPulseOrderKept :
    (at_ (.init 4#5) 1 0).Inv ∧ (at_ (.init 4#5) 1 0).cfg.indicesDistinct = true
    ∧ (at_ (.init 4#5) 1 0).pinOk ∧ (∀ idx v, (at_ (.init 4#5) 1 0).env.script.head? ≠ some (.master idx v))
    ∧ ∃ t, step (at_ (.init 4#5) 1 0) = .next t :=
  ⟨witness_init_inv.1, by decide, witness_init_inv.2, nofun, _, rfl⟩

/-- Both commands at every step; the count reached and not; the deadline on its boundary and past it; with
and without an inter-sample delay. -/
theorem witness_CaptureMicroSteps (j b : Nat) :
    ((at_ (.capt 4#5 42#6) j b).inFlight = some (.capt 4#5 42#6)
      ∧ (at_ (.capt 4#5 42#6) j b).seq = .run .capt j b)
    ∧ ((at_ (.acq 4#5) (14 + j) b).inFlight = some (.acq 4#5)
      ∧ (at_ (.acq 4#5) (14 + j) b).seq = .run .acq (14 + j) b)
    ∧ (at_ (.capt 4#5 0#6) 4 0).edgecnt = 0#6 ∧ (at_ (.capt 4#5 1#6) 4 0).edgecnt ≠ 1#6
    ∧ ({ at_ (.acq 4#5) 18 0 with edgecnt := 42#6 } : State).inFlight = some (.acq 4#5)
    ∧ elapsedNs ⟨200#32, 0#32⟩ ⟨200#32, 1000000#32⟩ ≤ ((1000#32).toNat : Int) * 1000
    ∧ ((1000#32).toNat : Int) * 1000 < elapsedNs ⟨200#32, 0#32⟩ ⟨200#32, 1000001#32⟩
    ∧ State.reset.cfg.tPollNs = 0
    ∧ 0 < ({ at_ (.capt 4#5 1#6) 7 0 with cfg := { tPollNs := 10000 } } : State).cfg.tPollNs :=
  ⟨⟨rfl, rfl⟩, ⟨rfl, rfl⟩, rfl, by decide, rfl, by decide, by decide, rfl, by decide⟩

/-- A falling edge, no edge, and both commands. -/
theorem witness_PollingBodySteps (b : Nat) :
    ((at_ (.capt 4#5 42#6) 6 b).portReady ∧ (at_ (.capt 4#5 42#6) 6 b).strategy = false
      ∧ (at_ (.capt 4#5 42#6) 6 b).edgecnt.toNat < 42
      ∧ (at_ (.capt 4#5 42#6) 6 b).inFlight = some (.capt 4#5 42#6)
      ∧ (at_ (.capt 4#5 42#6) 6 b).seq = .run .capt 6 b)
    ∧ ((at_ (.acq 4#5) 20 b).portReady ∧ (at_ (.acq 4#5) 20 b).inFlight = some (.acq 4#5)
      ∧ (at_ (.acq 4#5) 20 b).seq = .run .acq 20 b)
    ∧ (({ at_ (.capt 4#5 42#6) 6 1 with prev := true } : State).prev = true
      ∧ (at_ (.capt 4#5 42#6) 6 1).tmp.getLsbD 4 = false)
    ∧ (({ at_ (.capt 4#5 42#6) 6 2 with edgecnt := 42#6 } : State).edgecnt = 42#6
      ∧ ({ at_ (.capt 4#5 42#6) 6 2 with edgecnt := 42#6 } : State).portReady
      ∧ ({ at_ (.capt 4#5 42#6) 6 2 with edgecnt := 42#6 } : State).inFlight = some (.capt 4#5 42#6))
    ∧ (at_ (.capt 4#5 42#6) 6 1).prev = false ∧ (0x10#32).getLsbD 4 = true :=
  ⟨⟨⟨rfl, rfl⟩, rfl, by show 0 < 42; decide, rfl, rfl⟩, ⟨⟨rfl, rfl⟩, rfl, rfl⟩, ⟨rfl, rfl⟩,
    ⟨rfl, ⟨rfl, rfl⟩, rfl⟩, rfl, rfl⟩

/-- A set flag, a clear flag, and both commands. -/
theorem witness_EventFlagBodySteps (b : Nat) :
    (({ at_ (.capt 17#5 2#6) 6 b with strategy := true } : State).portReady
      ∧ ({ at_ (.capt 17#5 2#6) 6 b with strategy := true } : State).inFlight = some (.capt 17#5 2#6)
      ∧ ({ at_ (.capt 17#5 2#6) 6 b with strategy := true } : State).edgecnt.toNat < 42
      ∧ ({ at_ (.capt 17#5 2#6) 6 b with strategy := true } : State).seq = .run .capt 6 b)
    ∧ (({ at_ (.acq 4#5) 20 b with strategy := true } : State).portReady
      ∧ ({ at_ (.acq 4#5) 20 b with strategy := true } : State).inFlight = some (.acq 4#5)
      ∧ ({ at_ (.acq 4#5) 20 b with strategy := true } : State).seq = .run .acq 20 b)
    ∧ (0x00020001#32).getLsbD 17 = true ∧ (0x00000001#32).getLsbD 17 = false :=
  ⟨⟨⟨rfl, rfl⟩, rfl, by show 0 < 42; decide, rfl⟩, ⟨⟨rfl, rfl⟩, rfl, rfl⟩, rfl, rfl⟩

theorem witness_CaptureEndsWithinOneIteration :
    lateCapture.Inv ∧ lateCapture.undisturbed ∧ lateCapture.seq.captureAt = some 6 ∧ 4 ≤ 6
    ∧ lateCapture.cfg.tPollNs = 0 ∧ 2 ≤ lateCapture.env.times.length
    ∧ ∀ t ∈ lateCapture.env.times,
        (lateCapture.timeout.toNat : Int) * 1000 < elapsedNs lateCapture.t0 t :=
  ⟨witness_capture_inv, ⟨rfl, rfl, by decide⟩, rfl, by decide, rfl, by decide, by decide⟩

theorem witness_RecordedTimesStayOrdered :
    lateCapture.Inv ∧ lateCapture.timeOk ∧ lateCapture.env.times ≠ []
    ∧ ∃ t, step lateCapture = .next t := by
  refine ⟨witness_capture_inv, ⟨?_, ?_, nofun⟩, by decide, _, rfl⟩
  · unfold monotonic timeLe
    decide
  · unfold timeWellFormed timeLe
    decide

theorem witness_CaptFrame :
    (at_ (.capt 4#5 42#6) 1 0).cfg.indicesDistinct = true
    ∧ (at_ (.capt 4#5 42#6) 1 0).inFlight = some (.capt 4#5 42#6)
    ∧ ∃ t, exec (.capt 4#5 42#6) (at_ (.capt 4#5 42#6) 1 0) = .next t := ⟨by decide, rfl, _, rfl⟩

theorem witness_DecodeDelivers (b : Nat) :
    (({ at_ .dec 1 b with edgecnt := 42#6 } : State).edgecnt = 42#6
      ∧ ({ at_ .dec 1 b with edgecnt := 42#6 } : State).inFlight = some .dec
      ∧ ({ at_ .dec 1 b with edgecnt := 42#6 } : State).seq = .run .dec 1 b)
    ∧ ({ at_ (.acq 4#5) 23 b with edgecnt := 42#6 } : State).inFlight = some (.acq 4#5)
    ∧ ({ at_ (.acq 4#5) 23 b with edgecnt := 42#6 } : State).seq = .run .acq 23 b :=
  ⟨⟨rfl, rfl, rfl⟩, rfl, rfl⟩

/-- One edge short of a frame, and a state with the invariant. -/
theorem witness_DecodeNeedsAllEdges :
    (({ at_ .dec 1 0 with edgecnt := 41#6 } : State).edgecnt.toNat < 42
      ∧ ({ at_ .dec 1 0 with edgecnt := 41#6 } : State).inFlight = some .dec
      ∧ ({ at_ .dec 1 0 with edgecnt := 41#6 } : State).seq = .run .dec 1 0)
    ∧ lateCapture.Inv ∧ ∃ t, step lateCapture = .next t :=
  ⟨⟨by decide, rfl, rfl⟩, witness_capture_inv, _, rfl⟩

theorem witness_IntervalNormalised :
    timeWellFormed ⟨5#32, 999950000#32⟩ ∧ timeWellFormed ⟨6#32, 999999999#32⟩ := by
  unfold timeWellFormed
  decide

/-- An interval on the boundary, one below it, and a negative one. -/
theorem witness_IntervalThreshold :
    timeWellFormed ⟨5#32, 101000#32⟩ ∧ timeWellFormed ⟨6#32, 0#32⟩
    ∧ elapsedNs ⟨5#32, 0#32⟩ ⟨5#32, 101000#32⟩ = 101000
    ∧ elapsedNs ⟨5#32, 0#32⟩ ⟨5#32, 100999#32⟩ = 100999
    ∧ elapsedNs ⟨6#32, 0#32⟩ ⟨5#32, 999999000#32⟩ < 0 := by
  unfold timeWellFormed
  decide

theorem witness_DecodeIgnoresFirstEdge :
    ∀ i : Fin 42, 1 ≤ i.val → frameOfS6[i] = (frameOfS6.set 0 ⟨999#32, 0#32⟩)[i] := by
  intro i h
  simp only [Fin.getElem_fin]
  rw [Vector.getElem_set_ne]
  omega

/-- V-DEC-1 is such a sequence. -/
theorem witness_SynthesisedFrameDecodes :
    (∀ i : Fin 42, timeWellFormed frameOfS6[i])
    ∧ ∀ b : Fin 40, elapsedNs frameOfS6[b.val + 1] frameOfS6[b.val + 2] =
        if (#v[0xC2#8, 0xFA#8, 0x00#8, 0xC7#8, 0x01#8] : Vector Byte 5)[4 - b.val / 8].getLsbD
            (7 - b.val % 8) = true then 120000 else 70000 := by
  unfold timeWellFormed
  decide +kernel

theorem witness_FinalizeExactly :
    finalize #v[0xD0#8, 0x65#8, 0x80#8, 0xE8#8, 0x03#8] false = some ⟨1000#16, 101#15, true⟩ := by decide

/-- FIN and the last stage of ACQ with the payload of V-FIN-1. -/
def withPayload (b : Vector Byte 5) (s : State) : State :=
  { s with edgecnt := 42#6, pvalid := true, payload := b }

theorem witness_FinalizeDelivers (b : Nat) :
    ((withPayload #v[0xC2#8, 0xFA#8, 0x00#8, 0xC7#8, 0x01#8] (at_ .fin 1 b)).inFlight = some .fin
      ∧ (withPayload #v[0xC2#8, 0xFA#8, 0x00#8, 0xC7#8, 0x01#8] (at_ .fin 1 b)).seq = .run .fin 1 b
      ∧ (withPayload #v[0xC2#8, 0xFA#8, 0x00#8, 0xC7#8, 0x01#8] (at_ .fin 1 b)).pvalid = true)
    ∧ ((withPayload #v[0xC2#8, 0xFA#8, 0x00#8, 0xC7#8, 0x01#8] (at_ (.acq 4#5) 24 b)).inFlight
        = some (.acq 4#5)
      ∧ (withPayload #v[0xC2#8, 0xFA#8, 0x00#8, 0xC7#8, 0x01#8] (at_ (.acq 4#5) 24 b)).seq
        = .run .acq 24 b)
    ∧ finalize #v[0xC2#8, 0xFA#8, 0x00#8, 0xC7#8, 0x01#8] false = some ⟨455#16, 250#15, false⟩ :=
  ⟨⟨rfl, rfl, rfl⟩, ⟨rfl, rfl⟩, by decide⟩

theorem witness_FinalizeFails :
    ((at_ .fin 1 0).inFlight = some .fin ∧ (at_ .fin 1 0).seq = .run .fin 1 0
      ∧ (at_ .fin 1 0).pvalid = false)
    ∧ ((withPayload #v[0xC3#8, 0xFA#8, 0x00#8, 0xC7#8, 0x01#8] (at_ .fin 1 0)).inFlight = some .fin
      ∧ (withPayload #v[0xC3#8, 0xFA#8, 0x00#8, 0xC7#8, 0x01#8] (at_ (.acq 4#5) 24 0)).inFlight
        = some (.acq 4#5)
      ∧ (0xC3#8).toNat ≠ ((0xFA#8).toNat + (0x00#8).toNat + (0xC7#8).toNat + (0x01#8).toNat) % 256) :=
  ⟨⟨rfl, rfl, rfl⟩, rfl, rfl, by decide⟩

theorem witness_DecodeAndFinalizeFrame :
    ((at_ .dec 1 0).inFlight = some .dec ∧ ∃ t, exec .dec (at_ .dec 1 0) = .next t)
    ∧ (at_ .fin 1 0).inFlight = some .fin ∧ ∃ t, exec .fin (at_ .fin 1 0) = .next t :=
  ⟨⟨rfl, _, rfl⟩, rfl, _, rfl⟩

/-- One position in each stage, at which the stage's own command has a next state. -/
theorem witness_AcqRunsTheStages :
    ((at_ (.acq 4#5) 14 0).inFlight = some (.acq 4#5) ∧ (at_ (.acq 4#5) 14 0).maxe = 42#6
      ∧ ∃ t, exec (.init 4#5) { at_ (.acq 4#5) 14 0 with seq := .run .init 14 0 } = .next t)
    ∧ (∃ t, exec (.capt 4#5 42#6) { at_ (.acq 4#5) 18 0 with seq := .run .capt 4 0 } = .next t)
    ∧ (∃ t, exec (.capt 4#5 42#6)
        { at_ (.acq 4#5) 18 0 with edgecnt := 42#6, seq := .run .capt 4 0 } = .next t)
    ∧ (∃ t, exec .dec { at_ (.acq 4#5) 23 0 with edgecnt := 42#6, seq := .run .dec 1 0 } = .next t)
    ∧ ∃ t, exec .fin { at_ (.acq 4#5) 24 0 with seq := .run .fin 1 0 } = .next t :=
  ⟨⟨rfl, rfl, _, rfl⟩, ⟨_, rfl⟩, ⟨_, rfl⟩, ⟨_, rfl⟩, ⟨_, rfl⟩⟩

/-- A frame with a good checksum, and one (P4) with a bad one. -/
theorem witness_AcqDeliversReading :
    ({ at_ (.acq 4#5) 18 0 with edgecnt := 42#6, ts := frameOfS6 } : State).undisturbed
    ∧ ({ at_ (.acq 4#5) 18 0 with edgecnt := 42#6, ts := frameOfS6 } : State).inFlight
        = some (.acq 4#5)
    ∧ finalize (frameDecode 100 frameOfS6) false = some ⟨455#16, 250#15, false⟩
    ∧ finalize (frameDecode 100 (frameOfS6.set 41 ⟨101#32, 2760000#32⟩)) false = none :=
  ⟨⟨rfl, rfl, by decide⟩, rfl, by decide +kernel, by decide +kernel⟩

theorem witness_AcqFrame :
    (at_ (.acq 4#5) 12 0).cfg.indicesDistinct = true
    ∧ (at_ (.acq 4#5) 12 0).inFlight = some (.acq 4#5)
    ∧ ∃ t, exec (.acq 4#5) (at_ (.acq 4#5) 12 0) = .next t := ⟨by decide, rfl, _, rfl⟩

theorem witness_StepKeepsInvariant : lateCapture.Inv ∧ ∃ t, step lateCapture = .next t :=
  ⟨witness_capture_inv, _, rfl⟩

theorem witness_InvariantNeverStops : lateCapture.Inv := witness_capture_inv

theorem witness_AccessesStayInTheMap : ∃ t, step (at_ (.acq 4#5) 3 0) = .next t := ⟨_, rfl⟩

theorem witness_FatalUntilReset :
    ({ moves [.write 0#8 7#32] with fatal := true } : State).fatal = true
    ∧ ({ moves [.write 0#8 7#32] with fatal := true } : State).env.script.head? ≠ some .reset
    ∧ ({ moves [.write 0#8 7#32] with fatal := true } : State).seq = .idle
    ∧ ∃ t, step { moves [.write 0#8 7#32] with fatal := true } = .next t :=
  ⟨rfl, by decide, rfl, _, rfl⟩

theorem witness_OperandsFixedWhileBusy :
    ((at_ (.acq 4#5) 11 1).withScript [.write 3#8 5#32]).seq ≠ .idle
    ∧ ((at_ (.acq 4#5) 11 1).withScript [.write 3#8 5#32]).env.script.head? ≠ some .reset
    ∧ ∃ t, step ((at_ (.acq 4#5) 11 1).withScript [.write 3#8 5#32]) = .next t :=
  ⟨by decide, by decide, _, rfl⟩

theorem witness_ParametersNeverChange : ∃ t, step (moves [.reset]) = .next t := ⟨_, rfl⟩

/-- A read, a write and a poll. -/
theorem witness_HostWritesNoData :
    (∃ t, step (moves [.read 6#8]) = .next t) ∧ (∃ t, step (moves [.write 6#8 7#32]) = .next t)
    ∧ ∃ t, step (moves [.poll]) = .next t := ⟨⟨_, rfl⟩, ⟨_, rfl⟩, ⟨_, rfl⟩⟩

theorem witness_ResetEventValues :
    ((at_ (.acq 4#5) 11 1).withScript [.reset]).env.script = [.reset]
    ∧ (at_ (.acq 4#5) 11 1).cfg.timeoutResetUs = ({} : Params).timeoutResetUs := by decide

/-- INIT 4 in its low phase: the pin is an output driven low. -/
def lowPhase (k : Nat) : State :=
  { at_ (.init 4#5) k 0 with
    surf := { Surface.reset with fsel := #v[0x1000#32, 0#32, 0#32, 0#32] }
    env := { Env.reset with script := [.reset] } }

/-- A reset inside and outside the latch sequence, and in the low phase. -/
theorem witness_ResetLeavesTheSurface :
    ((lowPhase 11).env.script = [.reset] ∧ (∃ t, step (lowPhase 11) = .next t)
      ∧ (lowPhase 11).pinOk ∧ (lowPhase 11).seq = .run .init 11 0)
    ∧ ((lowPhase 12).pinOk ∧ (lowPhase 12).seq = .run .init 12 0)
    ∧ (lowPhase 11).inPullSequence = false ∧ (lowPhase 4).inPullSequence = true := by
  refine ⟨⟨rfl, ⟨_, rfl⟩, ?_, rfl⟩, ⟨?_, rfl⟩, rfl, rfl⟩ <;>
    refine ⟨?_, ?_, ?_, ?_, ?_⟩ <;> intros <;> first | contradiction | decide

/-- `s` with a port that hangs. -/
def hung (s : State) : State := { s with env := { s.env with portHangs := true } }

theorem witness_HangingAccessStaysPut :
    ((hung (at_ (.pullup 4#5) 1 0)).env.portHangs = true
      ∧ (hung (at_ (.pullup 4#5) 1 0)).cfg.indicesLegal = true
      ∧ (hung (at_ (.pullup 4#5) 1 0)).inFlight = some (.pullup 4#5))
    ∧ (hung (at_ (.setdir 4#5 .input) 2 0)).inFlight = some (.setdir 4#5 .input)
    ∧ (hung (at_ (.setlvl 4#5 .low) 1 0)).inFlight = some (.setlvl 4#5 .low)
    ∧ (hung (at_ (.rdlvl 4#5) 1 0)).inFlight = some (.rdlvl 4#5)
    ∧ (hung (at_ (.init 4#5) 14 0)).inFlight = some (.init 4#5)
    ∧ (hung (at_ (.acq 4#5) 14 0)).inFlight = some (.acq 4#5)
    ∧ (hung (at_ (.capt 4#5 42#6) 6 0)).inFlight = some (.capt 4#5 42#6)
    ∧ (hung { at_ (.acq 4#5) 20 1 with strategy := true, tmp := 0x10#32 }).inFlight = some (.acq 4#5)
    ∧ (hung { at_ (.acq 4#5) 20 1 with strategy := true, tmp := 0x10#32 }).tmp.getLsbD 4 = true := by
  decide

end Sys2Proof.Tests
end

section
/-! PROOF. The interval between two edges (R171, R172). -/

namespace Sys2Proof.Machine

/-- R171: the borrow leaves nanoseconds of one second and keeps the elapsed time. -/
theorem interval_normalised {lo hi : Timestamp} (hlo : timeWellFormed lo) (hhi : timeWellFormed hi) :
    0 ≤ (interval lo hi).2 ∧ (interval lo hi).2 ≤ 999999999
      ∧ (interval lo hi).1 * 1000000000 + (interval lo hi).2 = elapsedNs lo hi := by
  simp only [timeWellFormed] at hlo hhi
  simp only [interval, elapsedNs]
  split <;> dsimp only <;> omega

/-- R172: the two ways an interval becomes a 1. -/
theorem intervalBit_iff (thresh : Nat) (lo hi : Timestamp) :
    intervalBit thresh lo hi = true ↔
      0 < (interval lo hi).1 ∨ (thresh : Int) < (interval lo hi).2 / 1000 := by
  simp only [intervalBit, Bool.or_eq_true, decide_eq_true_eq]

/-- Settles O37: the one borrow of `interval`, taken or not. -/
theorem intervalNormalised : Obligations.IntervalNormalised := by
  unfold Obligations.IntervalNormalised
  exact fun _ _ hlo hhi => interval_normalised hlo hhi

/-- Settles O38: the seconds of a normalised interval have the sign of the elapsed time, so a second or more
is at least the threshold, and below a second the nanoseconds decide. -/
theorem intervalThreshold : Obligations.IntervalThreshold := by
  unfold Obligations.IntervalThreshold
  intro lo hi hlo hhi
  obtain ⟨hge, hle, heq⟩ := interval_normalised hlo hhi
  simp only [intervalBit_iff, Nat.cast_ofNat]
  exact ⟨fun _ => by omega, fun _ => by omega⟩

end Sys2Proof.Machine
end

section
/-! PROOF. What one step can do, said once: another agent's move, an acceptance or rejection, or one
ENGINE step of the command in flight. -/

namespace Sys2Proof.Machine

/-! ### Moves that record nothing -/

/-- No access, no observation and no edge is recorded between `s` and `t`, and the capture's entry time and
the timebase's answers to come are the same. -/
def State.sameRecords (s t : State) : Prop :=
  t.trace = s.trace ∧ t.env.times = s.env.times ∧ t.ts = s.ts ∧ t.edgecnt = s.edgecnt ∧ t.t0 = s.t0

/-- Acceptance of a word, legal or not, records nothing (R96, R98). -/
theorem acceptWord_sameRecords (w : Word) (s : State) : s.sameRecords (acceptWord w s) := by
  simp only [acceptWord]
  repeat' split
  all_goals exact ⟨rfl, rfl, rfl, rfl, rfl⟩

theorem hostWrite_sameRecords (off : BitVec 8) (v : Word) (s : State) :
    s.sameRecords (hostWrite off v s) := by
  simp only [hostWrite]
  repeat' split
  all_goals exact ⟨rfl, rfl, rfl, rfl, rfl⟩

theorem otherMaster_sameRecords (idx : Nat) (v : Word) (s : State) :
    s.sameRecords (otherMaster idx v s) := by
  simp only [otherMaster]
  split
  all_goals exact ⟨rfl, rfl, rfl, rfl, rfl⟩

/-- A latch sequence cut short takes no answer of the timebase (R242). -/
@[simp] theorem State.cutPull_times (s : State) : s.cutPull.env.times = s.env.times := by
  unfold State.cutPull
  split <;> rfl

/-- A command that a move runs is the one in flight, or the engine is idle to accept it (R38, R96). -/
theorem perform_command {m : Move} {s u : State} {i : Instr} (h : perform m s = .command i u) :
    u = s ∧ (s.inFlight = some i ∨ s.seq = .idle) := by
  cases m with
  | engine =>
    simp only [perform, engineTurn] at h
    split at h <;> simp_all
  | write off v =>
    simp only [perform, commandWrite] at h
    split at h
    · split at h
      · cases h
      · rename_i hb
        split at h
        · cases h
          exact ⟨rfl, .inr ((State.busy_eq_false_iff s).mp (by simpa using hb))⟩
        · cases h
    · cases h
  | poll =>
    simp only [perform] at h
    split at h <;> cases h
  | read | reset | flags | line | master => cases h

/-- A move that runs no command records nothing, or it is the reset event. -/
theorem perform_settled {m : Move} {s t : State} (h : perform m s = .settled t) :
    s.sameRecords t ∨ t = resetEvent s := by
  cases m with
  | engine =>
    simp only [perform, engineTurn] at h
    split at h <;> cases h
    exact .inl ⟨rfl, rfl, rfl, rfl, rfl⟩
  | write off v =>
    simp only [perform, commandWrite] at h
    split at h
    · split at h
      · cases h
        exact .inl ⟨rfl, rfl, rfl, rfl, rfl⟩
      · split at h <;> cases h
        exact .inl (acceptWord_sameRecords v s)
    · cases h
      exact .inl (hostWrite_sameRecords off v s)
  | poll =>
    simp only [perform] at h
    split at h <;> cases h <;> exact .inl ⟨rfl, rfl, rfl, rfl, rfl⟩
  | reset =>
    cases h
    exact .inr rfl
  | master idx v =>
    cases h
    exact .inl (otherMaster_sameRecords idx v s)
  | read | flags | line =>
    cases h
    exact .inl ⟨rfl, rfl, rfl, rfl, rfl⟩

/-- An empty script is the ENGINE's turn (log entry 7), so every step is a move with some script left. -/
theorem fetch_eq_perform (s : State) : ∃ m moves, fetch s = perform m (s.withScript moves) := by
  unfold fetch
  split
  · rename_i h
    exact ⟨.engine, [], by rw [← h]; rfl⟩
  · exact ⟨_, _, rfl⟩

/-! ### One ENGINE step -/

/-- What one ENGINE step leaves: a hanging port (U12), one read or one write of OWPE's map (R62), one
observation of the timebase, an edge recorded (R30), the capture loop entered (R150 step 3), the previous
capture discarded (R150 step 1), or nothing recorded. Where SEQ goes is left open (`q`). -/
inductive EngineStep (s : State) : State → Prop
  | hangs : EngineStep s s
  | read (idx : Nat) (q : Seq) (h : usesOnlyMapped s.cfg (.read idx (s.readAnswer idx))) :
      EngineStep s
        { s with
          tmp := s.readAnswer idx, env := s.envAfterRead
          trace := s.trace ++ [.read idx (s.readAnswer idx)], seq := q }
  | write (idx : Nat) (v : Word) (q : Seq) (h : usesOnlyMapped s.cfg (.write idx v)) :
      EngineStep s
        { s with
          surf := s.surf.absorb s.cfg idx v, trace := s.trace ++ [.write idx v], seq := q }
  | observe (tw : Timestamp) (trunc done : Bool) (err : ErrCode) (q : Seq) :
      EngineStep s
        { s.observed with tw := tw, trunc := trunc, done := done, err := err, seq := q }
  | record (q : Seq) (h : s.edgecnt.toNat < 42) :
      EngineStep s
        { s.observed with
          ts := s.ts.set s.edgecnt.toNat s.nowAnswer h, edgecnt := s.edgecnt + 1#6, seq := q }
  | enter (q : Seq) (h : s.seq.captureAt = some 3) :
      EngineStep s { s.observed with t0 := s.nowAnswer, seq := q }
  | discard : EngineStep s (beginCapture s).advance
  | quiet {t : State} (h : s.sameRecords t) : EngineStep s t

/-- A `move` of SEQ alone. -/
def MovesSeq (move : State → State) : Prop := ∀ s : State, ∃ q, move s = { s with seq := q }

theorem movesSeq_advance : MovesSeq State.advance := fun _ => ⟨_, rfl⟩
theorem movesSeq_within (b : Nat) : MovesSeq (State.within b) := fun _ => ⟨_, rfl⟩

/-- A micro-step number that the command does not have faults (R38). -/
theorem stray_ne_next {s t : State} (hs : s.seq ≠ .idle) : stray s ≠ .next t := by
  unfold stray
  split
  · contradiction
  · nofun

theorem regRead_engineStep {idx : Nat} {move : State → State} {s t : State} (hm : MovesSeq move)
    (hi : usesOnlyMapped s.cfg (.read idx (s.readAnswer idx))) (h : regRead idx move s = .next t) :
    EngineStep s t := by
  obtain ⟨-, ⟨-, rfl⟩ | ⟨-, rfl⟩⟩ := regRead_next h
  · exact .hangs
  · obtain ⟨q, hq⟩ := hm _
    rw [hq]
    exact .read idx q hi

theorem regWrite_engineStep {idx : Nat} {v : Word} {move : State → State} {s t : State}
    (hm : MovesSeq move) (hi : usesOnlyMapped s.cfg (.write idx v))
    (h : regWrite idx v move s = .next t) : EngineStep s t := by
  obtain ⟨-, ⟨-, rfl⟩ | ⟨-, rfl⟩⟩ := regWrite_next h
  · exact .hangs
  · obtain ⟨q, hq⟩ := hm _
    rw [hq]
    exact .write idx v q hi

theorem wait_engineStep {d : Nat} {s t : State} (h : wait d s = .next t) : EngineStep s t := by
  rw [wait_eq] at h
  cases h
  exact .observe _ _ _ _ _

theorem recordEdge_engineStep {move : State → State} {s t : State} (hm : MovesSeq move)
    (h : recordEdge move s = .next t) : EngineStep s t := by
  obtain ⟨hc, rfl⟩ := recordEdge_next h
  obtain ⟨q, hq⟩ := hm _
  rw [hq]
  exact .record q hc

/-- The function-select register of a pin is one of the four (R62). -/
theorem fselIndex_mapped (c : Params) (p : Pin) :
    c.idxFsel ≤ fselIndex c p ∧ fselIndex c p ≤ c.idxFsel + 3 := by
  have := p.isLt
  simp only [fselIndex]
  omega

theorem dirRead_engineStep {p : Pin} {s t : State} (h : dirRead p s = .next t) : EngineStep s t :=
  regRead_engineStep movesSeq_advance (.inl (fselIndex_mapped s.cfg p)) h

theorem dirWrite_engineStep {p : Pin} {d : Dir} {s t : State} (h : dirWrite p d s = .next t) :
    EngineStep s t :=
  regWrite_engineStep movesSeq_advance (.inl (fselIndex_mapped s.cfg p)) h

theorem levelWrite_engineStep {p : Pin} {l : Level} {s t : State} (h : levelWrite p l s = .next t) :
    EngineStep s t := by
  cases l <;> exact regWrite_engineStep movesSeq_advance (by simp [usesOnlyMapped]) h

theorem pullStep_engineStep {p : Pin} {k : Nat} {s t : State} (hs : s.seq ≠ .idle)
    (h : pullStep p k s = .next t) : EngineStep s t := by
  unfold pullStep at h
  split at h
  case h_2 | h_4 => exact wait_engineStep h
  case h_7 => exact absurd h (stray_ne_next hs)
  all_goals exact regWrite_engineStep movesSeq_advance (by simp [usesOnlyMapped]) h

theorem initiateStep_engineStep {p : Pin} {k : Nat} {s t : State} (hs : s.seq ≠ .idle)
    (h : initiateStep p k s = .next t) : EngineStep s t := by
  unfold initiateStep at h
  split at h
  case h_2 | h_7 => exact dirRead_engineStep h
  case h_3 | h_8 => exact dirWrite_engineStep h
  case h_5 => exact wait_engineStep h
  case h_9 => exact pullStep_engineStep hs h
  all_goals exact levelWrite_engineStep h

theorem pollBody_engineStep {p : Pin} {s t : State} (h : pollBody p s = .next t) :
    EngineStep s t := by
  unfold pollBody at h
  split at h
  · exact regRead_engineStep (movesSeq_within 1) (by simp [usesOnlyMapped]) h
  · split at h
    · exact recordEdge_engineStep (movesSeq_within 2) h
    · cases h
      exact .quiet ⟨rfl, rfl, rfl, rfl, rfl⟩
  · cases h
    exact .quiet ⟨rfl, rfl, rfl, rfl, rfl⟩

theorem flagBody_engineStep {p : Pin} {s t : State} (h : flagBody p s = .next t) :
    EngineStep s t := by
  unfold flagBody at h
  split at h
  · exact regRead_engineStep (movesSeq_within 1) (by simp [usesOnlyMapped]) h
  · split at h
    · exact regWrite_engineStep (movesSeq_within 2) (by simp [usesOnlyMapped]) h
    · cases h
      exact .quiet ⟨rfl, rfl, rfl, rfl, rfl⟩
  · exact recordEdge_engineStep movesSeq_advance h

theorem deadlineTest_engineStep {s t : State} (h : deadlineTest s = .next t) : EngineStep s t := by
  unfold deadlineTest at h
  split at h <;> cases h <;> exact .observe _ _ _ _ _

/-- Step `k` of the capture, at the position of SEQ that is its step `k` (R150, R200). -/
theorem captureStep_engineStep {p : Pin} {n : BitVec 6} {counted : State → State} {k : Nat}
    {s t : State} (hk : s.seq.captureAt = some k) (hc : s.sameRecords (counted s))
    (h : captureStep p n counted k s = .next t) : EngineStep s t := by
  unfold captureStep at h
  split at h
  case h_1 =>
    cases h
    exact .discard
  case h_3 =>
    cases h
    exact .enter _ hk
  case h_4 =>
    split at h <;> cases h
    · exact .quiet hc
    · exact .quiet ⟨rfl, rfl, rfl, rfl, rfl⟩
  case h_5 => exact deadlineTest_engineStep h
  case h_6 =>
    split at h
    · exact flagBody_engineStep h
    · exact pollBody_engineStep h
  case h_7 =>
    split at h
    · exact wait_engineStep h
    · cases h
      exact .quiet ⟨rfl, rfl, rfl, rfl, rfl⟩
  case h_8 => exact absurd h (stray_ne_next fun hs => by simp [hs, Seq.captureAt] at hk)
  case h_2 =>
    cases h
    exact .quiet ⟨rfl, rfl, rfl, rfl, rfl⟩

theorem finalizeBody_sameRecords {s t : State} (h : finalizeBody s = .next t) :
    s.sameRecords t := by
  unfold finalizeBody at h
  repeat' split at h
  all_goals
    cases h
    exact ⟨rfl, rfl, rfl, rfl, rfl⟩

theorem decodeBody_sameRecords {decoded : State → State} {s t : State}
    (hm : ∀ u : State, u.sameRecords (decoded u)) (h : decodeBody decoded s = .next t) :
    s.sameRecords t := by
  unfold decodeBody at h
  split at h <;> cases h
  · exact ⟨rfl, rfl, rfl, rfl, rfl⟩
  · exact hm _

theorem goto_sameRecords (k : Nat) (s : State) : s.sameRecords (s.goto k) := ⟨rfl, rfl, rfl, rfl, rfl⟩
theorem complete_sameRecords (s : State) : s.sameRecords s.complete := ⟨rfl, rfl, rfl, rfl, rfl⟩

/-- The body of the command in flight. -/
def commandBody : Instr → Nat → State → Outcome
  | .pullup p => pullupStep p
  | .setdir p d => setdirStep p d
  | .setlvl p l => setlvlStep p l
  | .rdlvl p => rdlvlStep p
  | .init p => initStep p
  | .capt p n => captStep p n
  | .dec => decStep
  | .fin => finStep
  | .acq p => acqStep p

/-- The command in flight makes one step of its body, at the micro-step SEQ holds (R38). -/
theorem exec_inFlight {i : Instr} {s : State} {k b : Nat} (hs : s.seq = .run i.op k b)
    (hi : s.inFlight = some i) : exec i s = commandBody i k s := by
  cases i <;> exact runCommand_inFlight hs hi

/-- Every body of a command in flight makes one ENGINE step. -/
theorem body_engineStep {i : Instr} {s t : State} {k b : Nat} (hs : s.seq = .run i.op k b)
    (h : commandBody i k s = .next t) : EngineStep s t := by
  have hrun : s.seq ≠ .idle := by simp [hs]
  cases i with
  | pullup p =>
    simp only [commandBody, pullupStep] at h
    split at h
    · cases h
      exact .quiet (complete_sameRecords s)
    · exact pullStep_engineStep hrun h
  | setdir p d =>
    simp only [commandBody, setdirStep] at h
    split at h
    · exact dirRead_engineStep h
    · exact dirWrite_engineStep h
    · cases h
      exact .quiet (complete_sameRecords s)
    · exact absurd h (stray_ne_next hrun)
  | setlvl p l =>
    simp only [commandBody, setlvlStep] at h
    split at h
    · exact levelWrite_engineStep h
    · cases h
      exact .quiet (complete_sameRecords s)
    · exact absurd h (stray_ne_next hrun)
  | rdlvl p =>
    simp only [commandBody, rdlvlStep] at h
    split at h
    · exact regRead_engineStep movesSeq_advance (by simp [usesOnlyMapped]) h
    · cases h
      exact .quiet ⟨rfl, rfl, rfl, rfl, rfl⟩
    · cases h
      exact .quiet (complete_sameRecords s)
    · exact absurd h (stray_ne_next hrun)
  | init p =>
    simp only [commandBody, initStep] at h
    split at h
    · cases h
      exact .quiet (complete_sameRecords s)
    · exact initiateStep_engineStep hrun h
  | capt p n =>
    simp only [commandBody, captStep] at h
    split at h
    · cases h
      exact .quiet (goto_sameRecords 4 s)
    · exact captureStep_engineStep (by simp [hs, Instr.op, Seq.captureAt]) (complete_sameRecords s) h
  | dec =>
    simp only [commandBody, decStep] at h
    split at h
    · exact .quiet (decodeBody_sameRecords complete_sameRecords h)
    · exact absurd h (stray_ne_next hrun)
  | fin =>
    simp only [commandBody, finStep] at h
    split at h
    · exact .quiet (finalizeBody_sameRecords h)
    · exact absurd h (stray_ne_next hrun)
  | acq p =>
    simp only [commandBody, acqStep] at h
    split at h
    case h_8 =>
      cases h
      exact .quiet (goto_sameRecords 18 s)
    case h_9 => exact .quiet (decodeBody_sameRecords (goto_sameRecords 24) h)
    case h_10 => exact .quiet (finalizeBody_sameRecords h)
    case h_11 => exact initiateStep_engineStep hrun h
    all_goals
      exact captureStep_engineStep (by simp [hs, Instr.op, Seq.captureAt]) (goto_sameRecords 23 s) h

/-- A command in flight that is answered made one ENGINE step. -/
theorem exec_engineStep {i : Instr} {s t : State} (hi : s.inFlight = some i)
    (h : exec i s = .next t) : EngineStep s t := by
  obtain ⟨k, b, hs⟩ := seq_of_inFlight hi
  rw [exec_inFlight hs hi] at h
  exact body_engineStep hs h

/-- Every step is the reset event or what one ENGINE step leaves, another agent's move and an acceptance
among the steps that record nothing; around it the step takes the move off the script. -/
theorem step_cases {s t : State} (h : step s = .next t) :
    ∃ moves, t = resetEvent (s.withScript moves) ∨ EngineStep (s.withScript moves) t := by
  obtain ⟨m, moves, hf⟩ := fetch_eq_perform s
  refine ⟨moves, ?_⟩
  simp only [step, hf] at h
  split at h
  · rename_i i u hp
    obtain ⟨rfl, hi | hidle⟩ := perform_command hp
    · exact .inr (exec_engineStep hi h)
    · rw [exec_idle i hidle] at h
      cases h
      exact .inr (.quiet (acceptWord_sameRecords _ _))
  · rename_i u hp
    cases h
    obtain hq | rfl := perform_settled hp
    · exact .inr (.quiet hq)
    · exact .inl rfl

end Sys2Proof.Machine
end

section
/-! PROOF. Every access is to an index of OWPE's map, one event a step (R62, R79). -/

namespace Sys2Proof.Machine

/-- `t` has at most one event more than `s`, of OWPE's map: what the statement asks of a step. -/
def State.oneMappedEvent (s t : State) : Prop :=
  ∃ events : List Event, t.trace = s.trace ++ events ∧ events.length ≤ 1
    ∧ ∀ e ∈ events, usesOnlyMapped s.cfg e

theorem oneMappedEvent_of_same {s t : State} (h : t.trace = s.trace) : s.oneMappedEvent t :=
  ⟨[], by simpa using h, by simp, by simp⟩

theorem oneMappedEvent_of_append {s t : State} {e : Event} (h : t.trace = s.trace ++ [e])
    (he : usesOnlyMapped s.cfg e) : s.oneMappedEvent t :=
  ⟨[e], h, by simp, by simpa using he⟩

theorem EngineStep.oneMappedEvent {s t : State} (h : EngineStep s t) : s.oneMappedEvent t := by
  cases h with
  | hangs | discard => exact oneMappedEvent_of_same rfl
  | quiet h => exact oneMappedEvent_of_same h.1
  | read _ _ h | write _ _ _ h => exact oneMappedEvent_of_append rfl h
  | observe | record | enter => exact oneMappedEvent_of_append rfl trivial

/-- Settles O53: the reset event makes no access, and an ENGINE step makes at most one. -/
theorem accessesStayInTheMap : Obligations.AccessesStayInTheMap := by
  unfold Obligations.AccessesStayInTheMap
  intro s t h
  obtain ⟨moves, rfl | he⟩ := step_cases h
  · exact oneMappedEvent_of_same rfl
  · exact he.oneMappedEvent

end Sys2Proof.Machine
end

section
/-! PROOF. The order of recorded time (R157). -/

namespace Sys2Proof.Machine

/-- The order of recorded time (`State.timeOk`) on its four ingredients: the answers to come, the entry
time, and the first `n` entries of TS. -/
def recordOk (times : List Timestamp) (t0 : Timestamp) (ts : Vector Timestamp 42) (n : Nat) : Prop :=
  monotonic times
    ∧ (∀ t ∈ times, timeWellFormed t ∧ timeLe t0 t)
    ∧ ∀ i : Fin 42, i.val < n →
        timeWellFormed ts[i] ∧ timeLe t0 ts[i] ∧ (∀ t ∈ times, timeLe ts[i] t)
          ∧ ∀ j : Fin 42, i.val < j.val → j.val < n → timeLe ts[i] ts[j]

theorem timeOk_iff_recordOk (s : State) :
    s.timeOk ↔ recordOk s.env.times s.t0 s.ts s.edgecnt.toNat := Iff.rfl

theorem State.sameRecords.timeOk {s t : State} (h : s.sameRecords t) (hs : s.timeOk) : t.timeOk := by
  obtain ⟨-, htimes, hts, hcnt, ht0⟩ := h
  rw [timeOk_iff_recordOk] at hs ⊢
  rwa [htimes, hts, hcnt, ht0]

/-- Every instant is at or after (0, 0). -/
theorem timeLe_zero (t : Timestamp) : timeLe Timestamp.zero t := by
  simp only [timeLe, elapsedNs, Timestamp.zero, BitVec.toNat_ofNat, Nat.zero_mod]
  omega

section
variable {a t0 : Timestamp} {times : List Timestamp} {ts : Vector Timestamp 42} {n : Nat}

/-- With no edge recorded only the answers to come matter. -/
theorem recordOk_no_edges {u0 : Timestamp} (h : recordOk times t0 ts n)
    (h0 : ∀ t ∈ times, timeLe u0 t) (us : Vector Timestamp 42) : recordOk times u0 us 0 :=
  ⟨h.1, fun t ht => ⟨(h.2.1 t ht).1, h0 t ht⟩, fun _ hi => absurd hi (Nat.not_lt_zero _)⟩

/-- The next answer is used up. -/
theorem recordOk_tail (h : recordOk (a :: times) t0 ts n) : recordOk times t0 ts n := by
  obtain ⟨hmono, htimes, hedges⟩ := h
  refine ⟨(List.pairwise_cons.mp hmono).2, fun t ht => htimes t (List.mem_cons_of_mem a ht), ?_⟩
  intro i hi
  obtain ⟨hwf, hle, hto, hord⟩ := hedges i hi
  exact ⟨hwf, hle, fun t ht => hto t (List.mem_cons_of_mem a ht), hord⟩

/-- The next answer becomes T0 while no edge is recorded. -/
theorem recordOk_enter (h : recordOk (a :: times) t0 ts 0) : recordOk times a ts 0 :=
  recordOk_no_edges (recordOk_tail h) (List.pairwise_cons.mp h.1).1 ts

/-- The next answer becomes the next edge: it is not before the recorded ones, nor after those to come. -/
theorem recordOk_record (hn : n < 42) (h : recordOk (a :: times) t0 ts n) :
    recordOk times t0 (ts.set n a hn) (n + 1) := by
  obtain ⟨hmono', htimes', -⟩ := recordOk_tail h
  obtain ⟨hmono, htimes, hedges⟩ := h
  obtain ⟨hwf, hle⟩ := htimes a List.mem_cons_self
  refine ⟨hmono', htimes', fun i hi => ?_⟩
  by_cases hin : i.val = n
  · have hset : (ts.set n a hn)[i] = a := by simp [hin]
    rw [hset]
    exact ⟨hwf, hle, (List.pairwise_cons.mp hmono).1, fun j hij hj => by omega⟩
  · have hset : (ts.set n a hn)[i] = ts[i] := by simp [Vector.getElem_set_ne, Ne.symm hin]
    obtain ⟨hwfi, hlei, hto, hord⟩ := hedges i (by omega)
    rw [hset]
    refine ⟨hwfi, hlei, fun t ht => hto t (List.mem_cons_of_mem a ht), fun j hij hj => ?_⟩
    by_cases hjn : j.val = n
    · have hsetj : (ts.set n a hn)[j] = a := by simp [hjn]
      rw [hsetj]
      exact hto a List.mem_cons_self
    · have hsetj : (ts.set n a hn)[j] = ts[j] := by simp [Vector.getElem_set_ne, Ne.symm hjn]
      rw [hsetj]
      exact hord j hij (by omega)

end

/-- An edge count with room for one more does not wrap (R31). -/
theorem edgecnt_add_one {n : BitVec 6} (h : n.toNat < 42) : (n + 1#6).toNat = n.toNat + 1 := by
  bv_omega

/-- Every ENGINE step keeps the order of recorded time; `hcnt` is the invariant's part on the step that
takes T0. -/
theorem EngineStep.timeOk {s t : State} (h : EngineStep s t)
    (hcnt : s.seq.captureAt = some 3 → s.edgecnt = 0#6) (htimes : s.env.times ≠ [])
    (hs : s.timeOk) : t.timeOk := by
  have hnow : recordOk (s.nowAnswer :: s.envAfterNow.times) s.t0 s.ts s.edgecnt.toNat := by
    rw [← State.envAfterNow_times_scripted htimes]
    exact (timeOk_iff_recordOk s).mp hs
  cases h with
  | hangs | write => exact hs
  | read =>
    rw [timeOk_iff_recordOk, State.envAfterRead_times]
    exact hs
  | quiet h => exact h.timeOk hs
  | observe => exact recordOk_tail hnow
  | record q hc =>
    rw [timeOk_iff_recordOk]
    simp only [edgecnt_add_one hc]
    exact recordOk_record hc hnow
  | enter q hk =>
    rw [hcnt hk] at hnow
    rw [timeOk_iff_recordOk]
    simp only [State.observed_edgecnt, hcnt hk]
    exact recordOk_enter hnow
  | discard => exact recordOk_no_edges hs (fun t ht => (hs.2.1 t ht).2) _

/-- The reset event leaves the answers to come and records no edge. -/
theorem resetEvent_timeOk {s : State} (hs : s.timeOk) : (resetEvent s).timeOk := by
  have h := recordOk_no_edges hs (fun t _ => timeLe_zero t) State.reset.ts
  rw [← s.cutPull_times] at h
  exact h

/-- The invariant says that the capture loop is entered with no edge recorded (R150). -/
theorem State.Inv.edgecnt_at_entry {s : State} (hi : s.Inv) (hk : s.seq.captureAt = some 3) :
    s.edgecnt = 0#6 := by
  have h := hi.edges.2
  rw [hk] at h
  obtain ⟨-, hentry, -⟩ := h
  exact hentry (.inr rfl)

/-- Settles O33: the answers to come are not before anything recorded, so whatever a step does with the next
one keeps the order. -/
theorem recordedTimesStayOrdered : Obligations.RecordedTimesStayOrdered := by
  unfold Obligations.RecordedTimesStayOrdered
  intro s t hinv hs htimes hstep
  obtain ⟨moves, rfl | he⟩ := step_cases hstep
  · exact resetEvent_timeOk (s := s.withScript moves) hs
  · exact he.timeOk hinv.edgecnt_at_entry htimes hs

end Sys2Proof.Machine
end

section
/-! PROOF. The micro-steps of PULLUP and INIT with the port ready (R121, R140). -/

namespace Sys2Proof.Machine

/-- The six micro-steps of the latch sequence (R121). -/
theorem pullStep_ready (p : Pin) {s : State} (h : s.portReady) :
    pullStep p 1 s = .next (s.afterWrite s.cfg.idxPud s.cfg.pudUp)
      ∧ pullStep p 2 s = .next (s.afterWait s.cfg.tSettleNs)
      ∧ pullStep p 3 s = .next (s.afterWrite s.cfg.idxPudclk (oneHot p))
      ∧ pullStep p 4 s = .next (s.afterWait s.cfg.tSettleNs)
      ∧ pullStep p 5 s = .next (s.afterWrite s.cfg.idxPud s.cfg.pudOff)
      ∧ pullStep p 6 s = .next (s.afterWrite s.cfg.idxPudclk 0#32) := by
  obtain ⟨-, -, -, -, -, hpud, hclk⟩ := indices_lt h.2 p
  exact ⟨regWrite_ready h hpud, wait_eq, regWrite_ready h hclk, wait_eq, regWrite_ready h hpud,
    regWrite_ready h hclk⟩

theorem dirRead_ready (p : Pin) {s : State} (h : s.portReady) :
    dirRead p s = .next (s.afterRead (fselIndex s.cfg p)) :=
  regRead_ready h (indices_lt h.2 p).1

theorem dirWrite_ready (p : Pin) (d : Dir) {s : State} (h : s.portReady) :
    dirWrite p d s
      = .next (s.afterWrite (fselIndex s.cfg p) (fselInsert s.tmp p (dirCode s.cfg d))) :=
  regWrite_ready h (indices_lt h.2 p).1

theorem levelWrite_ready (p : Pin) (l : Level) {s : State} (h : s.portReady) :
    levelWrite p l s
      = .next (s.afterWrite (if l = .high then s.cfg.idxSet else s.cfg.idxClr) (oneHot p)) := by
  obtain ⟨-, hset, hclr, -⟩ := indices_lt h.2 p
  cases l
  · exact regWrite_ready h hclr
  · exact regWrite_ready h hset

/-- INIT and ACQ begin with the latch sequence (R140). -/
theorem initiateStep_eq_pullStep (p : Pin) {k : Nat} (hk : k ≤ 6) (s : State) :
    initiateStep p k s = pullStep p k s := by
  unfold initiateStep
  split <;> first | omega | rfl

/-- The three commands with the latch sequence share it (R121, R140, R200). -/
theorem exec_pullSequence {p : Pin} {i : Instr} {s : State} {k b : Nat}
    (h : i = .pullup p ∨ i = .init p ∨ i = .acq p) (hk : k ≤ 6) (hs : s.seq = .run i.op k b)
    (hi : s.inFlight = some i) : exec i s = pullStep p k s := by
  obtain rfl | h := h
  · rw [exec_inFlight hs hi]
    simp only [commandBody, pullupStep]
    split
    · omega
    · rfl
  · rw [exec_initiate h (by omega) hs hi, initiateStep_eq_pullStep p hk]

/-- Settles O16: the latch sequence, then `complete`. -/
theorem pullupMicroSteps : Obligations.PullupMicroSteps := by
  unfold Obligations.PullupMicroSteps
  intro p s k b hr hi hs
  obtain ⟨h1, h2, h3, h4, h5, h6⟩ := pullStep_ready p hr
  have hexec : k ≤ 6 → exec (.pullup p) s = pullStep p k s :=
    fun hk => exec_pullSequence (.inl rfl) hk hs hi
  refine ⟨?_, ?_, ?_, ?_, ?_, ?_⟩
  · rintro rfl
    exact (hexec (by decide)).trans h1
  · rintro (rfl | rfl)
    · exact (hexec (by decide)).trans h2
    · exact (hexec (by decide)).trans h4
  · rintro rfl
    exact (hexec (by decide)).trans h3
  · rintro rfl
    exact (hexec (by decide)).trans h5
  · rintro rfl
    exact (hexec (by decide)).trans h6
  · rintro rfl
    exact exec_inFlight hs hi

/-- Settles O25: the latch sequence, then the level and direction changes, one wait, and INIT's `complete`. -/
theorem initMicroSteps : Obligations.InitMicroSteps := by
  unfold Obligations.InitMicroSteps
  intro p i s k b h hr hi hs
  obtain ⟨h1, h2, h3, h4, h5, h6⟩ := pullStep_ready p hr
  have hexec : k ≤ 14 → exec i s = initiateStep p k s := fun hk => exec_initiate h hk hs hi
  refine ⟨?_, ?_, ?_, ?_, ?_, ?_, ?_, ?_, ?_, ?_, ?_, ?_⟩
  · rintro rfl
    exact (hexec (by decide)).trans h1
  · rintro (rfl | rfl)
    · exact (hexec (by decide)).trans h2
    · exact (hexec (by decide)).trans h4
  · rintro rfl
    exact (hexec (by decide)).trans h3
  · rintro rfl
    exact (hexec (by decide)).trans h5
  · rintro rfl
    exact (hexec (by decide)).trans h6
  · rintro (rfl | rfl) <;> exact (hexec (by decide)).trans (levelWrite_ready p .high hr)
  · rintro (rfl | rfl) <;> exact (hexec (by decide)).trans (dirRead_ready p hr)
  · rintro rfl
    exact (hexec (by decide)).trans (dirWrite_ready p .output hr)
  · rintro rfl
    exact (hexec (by decide)).trans (levelWrite_ready p .low hr)
  · rintro rfl
    exact (hexec (by decide)).trans wait_eq
  · rintro rfl
    exact (hexec (by decide)).trans (dirWrite_ready p .input hr)
  · rintro rfl rfl
    exact exec_inFlight hs hi

end Sys2Proof.Machine
end

section
/-! PROOF. Whole runs with only the ENGINE moving: one `Wait`, the latch sequence, PULLUP and INIT
(R14, R121, R140). -/

namespace Sys2Proof.Machine

/-! ### What every micro-step of PULLUP and INIT leaves alone -/

/-- The data registers, the control registers and ERR are the same. -/
def keepsRegisters (s t : State) : Prop := sameData s t ∧ sameControl s t ∧ t.err = s.err

theorem keepsRegisters.trans {s t u : State} (h : keepsRegisters s t) (h' : keepsRegisters t u) :
    keepsRegisters s u := by
  simp_all only [keepsRegisters, sameData, sameControl, and_self]

theorem keepsRegisters_complete (s : State) : keepsRegisters s s.complete := by
  simp [keepsRegisters, sameData, sameControl]

/-! ### A command in flight at the start of a micro-step -/

/-- Only the ENGINE moves, and `i` in flight stands at the start of micro-step `k`. -/
structure State.ReadyAt (s : State) (i : Instr) (k : Nat) : Prop where
  undisturbed : s.undisturbed
  inFlight : s.inFlight = some i
  seq : s.seq = .run i.op k 0

/-- Where the opcode in SEQ and the latched operands are the same, so is the command in flight (R36). -/
theorem inFlight_eq_of_run {s t : State} {op : Op} {k b k' b' : Nat} (hs : s.seq = .run op k b)
    (ht : t.seq = .run op k' b') (hp : t.pinl = s.pinl) (ha : t.argl = s.argl)
    (hm : t.maxe = s.maxe) : t.inFlight = s.inFlight := by
  rw [State.inFlight_of_run hs, State.inFlight_of_run ht, hp, ha, hm]

section
variable {s t : State} {i : Instr} {k : Nat} {p : Pin}

theorem State.ReadyAt.portReady (h : s.ReadyAt i k) : s.portReady := h.undisturbed.2

/-- One micro-step is a run of one step. -/
theorem State.ReadyAt.run_one (h : s.ReadyAt i k) (he : exec i s = .next t) :
    runFor 1 s = .next t := by
  rw [runFor_succ ((step_undisturbed h.undisturbed h.inFlight).trans he), runFor_zero]

/-- What leaves the opcode in SEQ and the latched operands alone leaves the command in flight. -/
theorem State.ReadyAt.inFlight_of_run (h : s.ReadyAt i k) {k' b' : Nat}
    (ht : t.seq = .run i.op k' b') (hp : t.pinl = s.pinl) (ha : t.argl = s.argl)
    (hm : t.maxe = s.maxe) : t.inFlight = some i :=
  (inFlight_eq_of_run h.seq ht hp ha hm).trans h.inFlight

theorem State.ReadyAt.afterWrite (h : s.ReadyAt i k) (idx : Nat) (v : Word) :
    (s.afterWrite idx v).ReadyAt i (k + 1) := by
  have hseq : (s.afterWrite idx v).seq = .run i.op (k + 1) 0 := by
    simp [State.afterWrite, h.seq]
  exact ⟨h.undisturbed, h.inFlight_of_run hseq rfl rfl rfl, hseq⟩

/-! ### A read with a scripted answer -/

/-- What one read answered `v` by the script leaves, with the answers `rest` to come. -/
def State.afterScriptedRead (s : State) (idx : Nat) (v : Word) (rest : List Word) : State :=
  { s with
    tmp := v, env := { s.env with reads := rest }, trace := s.trace ++ [.read idx v]
    seq := s.seq.advance }

theorem afterRead_scripted {v : Word} {rest : List Word} (h : s.env.reads = v :: rest) (idx : Nat) :
    s.afterRead idx = s.afterScriptedRead idx v rest := by
  simp [State.afterRead, State.afterScriptedRead, State.readAnswer, State.envAfterRead, h]

theorem dirRead_scripted (p : Pin) (h : s.portReady) {v : Word} {rest : List Word}
    (hv : s.env.reads = v :: rest) :
    dirRead p s = .next (s.afterScriptedRead (fselIndex s.cfg p) v rest) := by
  rw [dirRead_ready p h, afterRead_scripted hv]

theorem State.ReadyAt.afterScriptedRead (h : s.ReadyAt i k) (idx : Nat) (v : Word)
    (rest : List Word) : (s.afterScriptedRead idx v rest).ReadyAt i (k + 1) := by
  have hseq : (s.afterScriptedRead idx v rest).seq = .run i.op (k + 1) 0 := by
    simp [State.afterScriptedRead, h.seq]
  exact ⟨h.undisturbed, h.inFlight_of_run hseq rfl rfl rfl, hseq⟩

/-! ### A `Wait` with scripted answers (R14) -/

/-- The timebase has answered `obs`, and `rest` is to come; TW and SEQ have moved. -/
def State.heard (s : State) (obs rest : List Timestamp) (tw : Timestamp) (q : Seq) : State :=
  { s with
    env := { s.env with times := rest }, trace := s.trace ++ obs.map Event.now, tw := tw, seq := q }

theorem keepsRegisters_heard (s : State) (obs rest : List Timestamp) (tw : Timestamp) (q : Seq) :
    keepsRegisters s (s.heard obs rest tw q) := by
  simp [keepsRegisters, sameData, sameControl, State.heard]

theorem State.heard_heard (s : State) (l m rest rest' : List Timestamp) (w w' : Timestamp)
    (q q' : Seq) : (s.heard l rest w q).heard m rest' w' q' = s.heard (l ++ m) rest' w' q' := by
  simp [State.heard]

theorem State.ReadyAt.heard (h : s.ReadyAt i k) (obs rest : List Timestamp) (tw : Timestamp) :
    (s.heard obs rest tw s.seq.advance).ReadyAt i (k + 1) := by
  have hseq : (s.heard obs rest tw s.seq.advance).seq = .run i.op (k + 1) 0 := by
    simp [State.heard, h.seq]
  exact ⟨h.undisturbed, h.inFlight_of_run hseq rfl rfl rfl, hseq⟩

variable {d : Nat} {x : Timestamp} {rest : List Timestamp}

theorem afterWait_start (h0 : s.sub = 0) (ht : s.env.times = x :: rest) :
    s.afterWait d = s.heard [x] rest x (s.seq.within 1) := by
  obtain ⟨hx, henv⟩ := State.observe_scripted ht
  simp [State.afterWait, State.heard, h0, hx, henv]

theorem afterWait_poll (h0 : s.sub ≠ 0) (ht : s.env.times = x :: rest)
    (hd : elapsedNs s.tw x < (d : Int)) : s.afterWait d = s.heard [x] rest s.tw s.seq := by
  obtain ⟨hx, henv⟩ := State.observe_scripted ht
  simp [State.afterWait, State.heard, h0, hx, henv, Int.not_le.mpr hd]

theorem afterWait_last (h0 : s.sub ≠ 0) (ht : s.env.times = x :: rest)
    (hd : (d : Int) ≤ elapsedNs s.tw x) :
    s.afterWait d = s.heard [x] rest s.tw s.seq.advance := by
  obtain ⟨hx, henv⟩ := State.observe_scripted ht
  simp [State.afterWait, State.heard, h0, hx, henv, hd]

end

/-- Micro-step `k` of `i` is `Wait(d)` under the parameters `c`. -/
def WaitsAt (i : Instr) (k d : Nat) (c : Params) : Prop :=
  ∀ (u : State) (b : Nat), u.cfg = c → u.inFlight = some i → u.seq = .run i.op k b →
    exec i u = .next (u.afterWait d)

/-- The polls of a `Wait` that has taken its start time (R14), by induction on the polls short of `d`. -/
theorem polls_run {i : Instr} {k d : Nat} {z : Timestamp} {rest polls : List Timestamp} {s : State}
    (hw : WaitsAt i k d s.cfg) (hu : s.undisturbed) (hi : s.inFlight = some i)
    (hs : s.seq = .run i.op k 1) (ht : s.env.times = polls ++ z :: rest)
    (hobs : waitObservations d s.tw polls z) :
    runFor (polls.length + 1) s = .next (s.heard (polls ++ [z]) rest s.tw s.seq.advance) := by
  induction polls generalizing s with
  | nil =>
    have hstep := (step_undisturbed hu hi).trans (hw s 1 rfl hi hs)
    rw [afterWait_last (by simp [State.sub_of_run hs]) ht hobs.2] at hstep
    exact runFor_succ hstep
  | cons x polls ih =>
    obtain ⟨hpolls, hlast⟩ := hobs
    have hstep := (step_undisturbed hu hi).trans (hw s 1 rfl hi hs)
    rw [afterWait_poll (by simp [State.sub_of_run hs]) ht (hpolls x List.mem_cons_self)] at hstep
    have hpolls' : ∀ t ∈ polls, elapsedNs s.tw t < (d : Int) :=
      fun t h => hpolls t (List.mem_cons_of_mem x h)
    have hrest := ih (s := s.heard [x] (polls ++ z :: rest) s.tw s.seq) hw hu hi hs rfl
      ⟨hpolls', hlast⟩
    rw [State.heard_heard] at hrest
    exact (runFor_succ hstep).trans hrest

/-- A whole `Wait(d)` takes its start time, polls, and ends at the first answer at or beyond `d` (R14). -/
theorem wait_run {i : Instr} {k d : Nat} {a z : Timestamp} {rest polls : List Timestamp} {s : State}
    (h : s.ReadyAt i k) (hw : WaitsAt i k d s.cfg) (ht : s.env.times = a :: polls ++ z :: rest)
    (hobs : waitObservations d a polls z) :
    runFor (polls.length + 2) s
      = .next (s.heard (a :: polls ++ [z]) rest a s.seq.advance) := by
  have hstep := (step_undisturbed h.undisturbed h.inFlight).trans (hw s 0 rfl h.inFlight h.seq)
  rw [afterWait_start (State.sub_of_run h.seq) ht, h.seq] at hstep
  have hi : (s.heard [a] (polls ++ z :: rest) a (.run i.op k 1)).inFlight = some i :=
    h.inFlight_of_run rfl rfl rfl rfl
  have hpolls := polls_run (s := s.heard [a] (polls ++ z :: rest) a (.run i.op k 1)) hw
    h.undisturbed hi rfl rfl hobs
  rw [State.heard_heard] at hpolls
  rw [h.seq]
  exact (runFor_succ hstep).trans hpolls

/-! ### The latch sequence -/

theorem runFor_trans {m n : Nat} {s t u : State} (h : runFor m s = .next t)
    (h' : runFor n t = .next u) : runFor (m + n) s = .next u := (runFor_add h).trans h'

/-- The pull configuration after the four writes of the latch sequence (R121). -/
def Surface.pulledUp (g : Surface) (c : Params) (p : Pin) : Surface :=
  (((g.absorb c c.idxPud c.pudUp).absorb c c.idxPudclk (oneHot p)).absorb c c.idxPud
    c.pudOff).absorb c c.idxPudclk 0#32

/-- The events of the latch sequence whose waits hear `obs` and `obs'` (R121). -/
def pullEvents (c : Params) (p : Pin) (obs obs' : List Timestamp) : List Event :=
  [.write c.idxPud c.pudUp] ++ obs.map Event.now ++ [.write c.idxPudclk (oneHot p)]
    ++ obs'.map Event.now ++ [.write c.idxPud c.pudOff, .write c.idxPudclk 0#32]

/-- What the latch sequence leaves, its second wait begun at `a'` (R121). -/
def State.afterPullSequence (s : State) (p : Pin) (obs : List Timestamp) (a' : Timestamp)
    (obs' rest : List Timestamp) : State :=
  { s with
    surf := s.surf.pulledUp s.cfg p
    env := { s.env with times := rest }
    tw := a'
    trace := s.trace ++ pullEvents s.cfg p obs obs'
    seq := s.seq.goto 7 }

section
variable {p : Pin} {i : Instr} {s : State} {a z a' z' : Timestamp}
  {polls polls' rest : List Timestamp}

theorem keepsRegisters_afterPullSequence (s : State) (p : Pin) (obs : List Timestamp) (a' : Timestamp)
    (obs' rest : List Timestamp) :
    keepsRegisters s (s.afterPullSequence p obs a' obs' rest) := by
  simp [keepsRegisters, sameData, sameControl, State.afterPullSequence]

/-- Micro-steps 2 and 4 of the latch sequence are waits (R121). -/
theorem pullSequence_waitsAt (h : i = .pullup p ∨ i = .init p ∨ i = .acq p) {k : Nat}
    (hk : k = 2 ∨ k = 4) (c : Params) : WaitsAt i k c.tSettleNs c := by
  rintro u b rfl hi hs
  rw [exec_pullSequence h (by omega) hs hi]
  obtain rfl | rfl := hk <;> exact wait_eq

theorem State.ReadyAt.afterPullSequence (h : s.ReadyAt i 1) (obs obs' : List Timestamp) :
    (s.afterPullSequence p obs a' obs' rest).ReadyAt i 7 := by
  have hseq : (s.afterPullSequence p obs a' obs' rest).seq = .run i.op 7 0 := by
    simp [State.afterPullSequence, h.seq]
  exact ⟨h.undisturbed, h.inFlight_of_run hseq rfl rfl rfl, hseq⟩

/-- The run of the latch sequence, micro-step after micro-step (R121). -/
theorem pullSequence_run (h : i = .pullup p ∨ i = .init p ∨ i = .acq p) (hr : s.ReadyAt i 1)
    (ht : s.env.times = a :: polls ++ z :: (a' :: polls' ++ z' :: rest))
    (hw : waitObservations s.cfg.tSettleNs a polls z)
    (hw' : waitObservations s.cfg.tSettleNs a' polls' z') :
    runFor (polls.length + polls'.length + 8) s
      = .next (s.afterPullSequence p (a :: polls ++ [z]) a' (a' :: polls' ++ [z']) rest) := by
  have exec_at : ∀ {u : State} {k : Nat}, u.ReadyAt i k → k ≤ 6 → exec i u = pullStep p k u :=
    fun hu hk => exec_pullSequence h hk hu.seq hu.inFlight
  have hr2 := hr.afterWrite s.cfg.idxPud s.cfg.pudUp
  have hr3 := hr2.heard (a :: polls ++ [z]) (a' :: polls' ++ z' :: rest) a
  have hr4 := hr3.afterWrite s.cfg.idxPudclk (oneHot p)
  have hr5 := hr4.heard (a' :: polls' ++ [z']) rest a'
  have hr6 := hr5.afterWrite s.cfg.idxPud s.cfg.pudOff
  obtain ⟨h1, -⟩ := pullStep_ready p hr.portReady
  obtain ⟨-, -, h3, -⟩ := pullStep_ready p hr3.portReady
  obtain ⟨-, -, -, -, h5, -⟩ := pullStep_ready p hr5.portReady
  obtain ⟨-, -, -, -, -, h6⟩ := pullStep_ready p hr6.portReady
  have run1 := hr.run_one ((exec_at hr (by decide)).trans h1)
  have run2 := wait_run hr2 (pullSequence_waitsAt h (.inl rfl) _) ht hw
  have run3 := hr3.run_one ((exec_at hr3 (by decide)).trans h3)
  have run4 := wait_run hr4 (pullSequence_waitsAt h (.inr rfl) _) rfl hw'
  have run5 := hr5.run_one ((exec_at hr5 (by decide)).trans h5)
  have run6 := hr6.run_one ((exec_at hr6 (by decide)).trans h6)
  have run := runFor_trans run1 (runFor_trans run2 (runFor_trans run3 (runFor_trans run4
    (runFor_trans run5 run6))))
  convert run using 2
  · omega
  · simp [State.afterPullSequence, State.afterWrite, State.heard, Surface.pulledUp, pullEvents, hr.seq]

end

/-- Settles O17: the latch sequence, then `complete`. -/
theorem pullupRun : Obligations.PullupRun := by
  unfold Obligations.PullupRun
  intro p s a z a' z' polls polls' rest hu hi hs ht hw hw'
  have hr : s.ReadyAt (.pullup p) 1 := ⟨hu, hi, hs⟩
  have hr7 : (s.afterPullSequence p (a :: polls ++ [z]) a' (a' :: polls' ++ [z']) rest).ReadyAt
      (.pullup p) 7 := hr.afterPullSequence _ _
  have run6 := pullSequence_run (.inl rfl) hr (by simpa using ht) hw hw'
  have run7 := hr7.run_one (t := State.complete _) (exec_inFlight hr7.seq hr7.inFlight)
  obtain ⟨hdata, hcontrol, herr⟩ :=
    (keepsRegisters_afterPullSequence s p _ _ _ _).trans (keepsRegisters_complete _)
  refine ⟨_, runFor_trans (m := polls.length + polls'.length + 8) run6 run7, rfl, rfl, herr, rfl, rfl,
    hdata, hcontrol, ?_⟩
  simp [State.afterPullSequence, pullEvents, oneHot]

/-- Micro-step 11 of INIT is a wait (R140). -/
theorem init_waitsAt (p : Pin) (c : Params) : WaitsAt (.init p) 11 c.tHoldLowNs c := by
  rintro u b rfl hi hs
  rw [exec_initiate (.inl rfl) (by decide) hs hi]
  exact wait_eq

/-- What micro-steps 7 to 10 of INIT leave: the pin latched high, made an output by the read answered `v`, and
driven low (R140). -/
def State.afterDriveLow (s : State) (p : Pin) (v : Word) (reads : List Word) : State :=
  { s with
    surf := ((s.surf.absorb s.cfg s.cfg.idxSet (oneHot p)).absorb s.cfg (fselIndex s.cfg p)
      (fselInsert v p s.cfg.fselOutput)).absorb s.cfg s.cfg.idxClr (oneHot p)
    env := { s.env with reads := reads }
    tmp := v
    trace := s.trace ++
      [.write s.cfg.idxSet (oneHot p), .read (fselIndex s.cfg p) v,
        .write (fselIndex s.cfg p) (fselInsert v p s.cfg.fselOutput),
        .write s.cfg.idxClr (oneHot p)]
    seq := s.seq.goto 11 }

/-- What micro-steps 12 to 14 of INIT leave: the pin latched high and made an input by the read answered `v`
(R140). -/
def State.afterRelease (s : State) (p : Pin) (v : Word) (reads : List Word) : State :=
  { s with
    surf := (s.surf.absorb s.cfg s.cfg.idxSet (oneHot p)).absorb s.cfg (fselIndex s.cfg p)
      (fselInsert v p s.cfg.fselInput)
    env := { s.env with reads := reads }
    tmp := v
    trace := s.trace ++
      [.write s.cfg.idxSet (oneHot p), .read (fselIndex s.cfg p) v,
        .write (fselIndex s.cfg p) (fselInsert v p s.cfg.fselInput)]
    seq := s.seq.goto 15 }

theorem keepsRegisters_afterDriveLow (s : State) (p : Pin) (v : Word) (reads : List Word) :
    keepsRegisters s (s.afterDriveLow p v reads) := by
  simp [keepsRegisters, sameData, sameControl, State.afterDriveLow]

theorem keepsRegisters_afterRelease (s : State) (p : Pin) (v : Word) (reads : List Word) :
    keepsRegisters s (s.afterRelease p v reads) := by
  simp [keepsRegisters, sameData, sameControl, State.afterRelease]

section
variable {p : Pin} {i : Instr} {s : State} {k : Nat} {v : Word} {reads : List Word}

theorem State.ReadyAt.afterDriveLow (h : s.ReadyAt i k) (p : Pin) (v : Word) (reads : List Word) :
    (s.afterDriveLow p v reads).ReadyAt i 11 := by
  have hseq : (s.afterDriveLow p v reads).seq = .run i.op 11 0 := by
    simp [State.afterDriveLow, h.seq]
  exact ⟨h.undisturbed, h.inFlight_of_run hseq rfl rfl rfl, hseq⟩

theorem State.ReadyAt.afterRelease (h : s.ReadyAt i k) (p : Pin) (v : Word) (reads : List Word) :
    (s.afterRelease p v reads).ReadyAt i 15 := by
  have hseq : (s.afterRelease p v reads).seq = .run i.op 15 0 := by
    simp [State.afterRelease, h.seq]
  exact ⟨h.undisturbed, h.inFlight_of_run hseq rfl rfl rfl, hseq⟩

theorem State.ReadyAt.exec_init (h : s.ReadyAt (.init p) k) (hk : k ≤ 14) :
    exec (.init p) s = initiateStep p k s :=
  exec_initiate (.inl rfl) hk h.seq h.inFlight

/-- The run of micro-steps 7 to 10 of INIT, one after the other (R140). -/
theorem driveLow_run (hr : s.ReadyAt (.init p) 7) (hv : s.env.reads = v :: reads) :
    runFor 4 s = .next (s.afterDriveLow p v reads) := by
  have hr8 := hr.afterWrite s.cfg.idxSet (oneHot p)
  have hr9 := hr8.afterScriptedRead (fselIndex s.cfg p) v reads
  have hr10 := hr9.afterWrite (fselIndex s.cfg p) (fselInsert v p s.cfg.fselOutput)
  have run7 := hr.run_one ((hr.exec_init (by decide)).trans (levelWrite_ready p .high hr.portReady))
  have run8 := hr8.run_one
    ((hr8.exec_init (by decide)).trans (dirRead_scripted p hr8.portReady hv))
  have run9 := hr9.run_one
    ((hr9.exec_init (by decide)).trans (dirWrite_ready p .output hr9.portReady))
  have run10 := hr10.run_one
    ((hr10.exec_init (by decide)).trans (levelWrite_ready p .low hr10.portReady))
  have run := runFor_trans run7 (runFor_trans run8 (runFor_trans run9 run10))
  convert run using 2
  simp [State.afterDriveLow, State.afterWrite, State.afterScriptedRead, hr.seq]

/-- The run of micro-steps 12 to 14 of INIT, one after the other (R140). -/
theorem release_run (hr : s.ReadyAt (.init p) 12) (hv : s.env.reads = v :: reads) :
    runFor 3 s = .next (s.afterRelease p v reads) := by
  have hr13 := hr.afterWrite s.cfg.idxSet (oneHot p)
  have hr14 := hr13.afterScriptedRead (fselIndex s.cfg p) v reads
  have run12 := hr.run_one
    ((hr.exec_init (by decide)).trans (levelWrite_ready p .high hr.portReady))
  have run13 := hr13.run_one
    ((hr13.exec_init (by decide)).trans (dirRead_scripted p hr13.portReady hv))
  have run14 := hr14.run_one
    ((hr14.exec_init (by decide)).trans (dirWrite_ready p .input hr14.portReady))
  have run := runFor_trans run12 (runFor_trans run13 run14)
  convert run using 2
  simp [State.afterRelease, State.afterWrite, State.afterScriptedRead, dirCode, hr.seq]

end

/-- Settles O26: the latch sequence, the pin driven low, the third wait, the pin released, then `complete`. -/
theorem initRun : Obligations.InitRun := by
  unfold Obligations.InitRun
  intro p s a1 z1 a2 z2 a3 z3 l1 l2 l3 rest v1 v2 reads hu hi hs ht hv hw1 hw2 hw3
  have hr : s.ReadyAt (.init p) 1 := ⟨hu, hi, hs⟩
  have hr7 := hr.afterPullSequence (p := p) (a' := a2) (rest := a3 :: l3 ++ z3 :: rest)
    (a1 :: l1 ++ [z1]) (a2 :: l2 ++ [z2])
  have hr11 := hr7.afterDriveLow p v1 (v2 :: reads)
  have hr12 := hr11.heard (a3 :: l3 ++ [z3]) rest a3
  have hr15 := hr12.afterRelease p v2 reads
  have run6 := pullSequence_run (.inr (.inl rfl)) hr (by simpa using ht) hw1 hw2
  have run10 := driveLow_run hr7 hv
  have run11 := wait_run hr11 (init_waitsAt p _) rfl hw3
  have run14 := release_run hr12 rfl
  have run15 := hr15.run_one (t := State.complete _) (exec_inFlight hr15.seq hr15.inFlight)
  have run := runFor_trans run6 (runFor_trans run10 (runFor_trans run11 (runFor_trans run14 run15)))
  rw [show l1.length + l2.length + 8 + (4 + (l3.length + 2 + (3 + 1)))
    = l1.length + l2.length + l3.length + 18 by omega] at run
  obtain ⟨hdata, hcontrol, herr⟩ := ((((keepsRegisters_afterPullSequence s p _ _ _ _).trans
    (keepsRegisters_afterDriveLow _ p v1 _)).trans (keepsRegisters_heard _ _ rest a3 _)).trans
    (keepsRegisters_afterRelease _ p v2 reads)).trans (keepsRegisters_complete _)
  refine ⟨_, run, rfl, rfl, herr, rfl, rfl, ?_, hdata, hcontrol, ?_⟩
  · simp [State.afterRelease, State.heard, State.afterDriveLow, State.afterPullSequence]
  · simp [State.afterRelease, State.heard, State.afterDriveLow, State.afterPullSequence, pullEvents,
      oneHot, fselIndex]

end Sys2Proof.Machine
end

section
/-! PROOF. From a state with the invariant every step is answered (R15, R69). -/

namespace Sys2Proof.Machine

/-! ### What the invariant gives a command in flight -/

/-- The moves to come are no part of the invariant. -/
theorem State.Inv.withScript {s : State} (h : s.Inv) (moves : List Move) : (s.withScript moves).Inv :=
  ⟨h.indices, h.sequencer, h.edges, h.data, h.reports, h.stages⟩

/-- A command in flight stands at one of its micro-steps (R38). -/
theorem State.Inv.position {s : State} {op : Op} {k b : Nat} (h : s.Inv) (hs : s.seq = .run op k b) :
    1 ≤ k ∧ k ≤ Op.lastStep op := by
  have hseq := h.sequencer
  simp only [State.sequencerOk, hs] at hseq
  exact ⟨hseq.1, hseq.2.1⟩

/-- MAXE is at most 42 during a capture (R31, R36). -/
theorem State.Inv.maxe_le {s : State} {j : Nat} (h : s.Inv) (hc : s.seq.captureAt = some j) :
    s.maxe.toNat ≤ 42 := by
  have hseq := h.sequencer
  unfold State.sequencerOk at hseq
  split at hseq
  · rename_i hs
    simp [hs, Seq.captureAt] at hc
  · rename_i op k b hs
    obtain ⟨-, -, -, -, -, -, -, hcapt, hacq⟩ := hseq
    cases op with
    | capt => exact hcapt rfl
    | acq => simp [hacq rfl]
    | pullup | setdir | setlvl | rdlvl | init | dec | fin => simp [hs, Seq.captureAt] at hc

/-- Where the capture body may still record an edge, TS has room for it (R31). -/
theorem State.Inv.room {s : State} (h : s.Inv) (hc : s.seq.captureAt = some 6)
    (hb : s.strategy = true ∨ s.sub < 2) : s.edgecnt.toNat < 42 := by
  have hedges := h.edges.2
  rw [hc] at hedges
  obtain ⟨-, -, -, hbody⟩ := hedges
  exact lt_of_lt_of_le (hbody rfl hb) (h.maxe_le hc)

/-! ### The shared operations and bodies are answered -/

section
variable {s : State}

theorem regRead_answered {idx : Nat} (h : idx < Config.surfWords) (move : State → State) :
    ∃ t, regRead idx move s = .next t := by
  cases hp : s.env.portHangs
  · exact ⟨_, regRead_ok h hp⟩
  · exact ⟨_, regRead_hangs h hp⟩

theorem regWrite_answered {idx : Nat} (h : idx < Config.surfWords) (v : Word)
    (move : State → State) : ∃ t, regWrite idx v move s = .next t := by
  cases hp : s.env.portHangs
  · exact ⟨_, regWrite_ok h hp⟩
  · exact ⟨_, regWrite_hangs h hp⟩

theorem dirRead_answered (h : s.cfg.indicesLegal = true) (p : Pin) : ∃ t, dirRead p s = .next t :=
  regRead_answered (indices_lt h p).1 _

theorem dirWrite_answered (h : s.cfg.indicesLegal = true) (p : Pin) (d : Dir) :
    ∃ t, dirWrite p d s = .next t :=
  regWrite_answered (indices_lt h p).1 _ _

theorem levelWrite_answered (h : s.cfg.indicesLegal = true) (p : Pin) (l : Level) :
    ∃ t, levelWrite p l s = .next t := by
  obtain ⟨-, hset, hclr, -⟩ := indices_lt h p
  cases l
  · exact regWrite_answered hclr _ _
  · exact regWrite_answered hset _ _

theorem pullStep_answered (h : s.cfg.indicesLegal = true) (p : Pin) {k : Nat} (h1 : 1 ≤ k)
    (h6 : k ≤ 6) : ∃ t, pullStep p k s = .next t := by
  obtain ⟨-, -, -, -, -, hpud, hclk⟩ := indices_lt h p
  unfold pullStep
  split
  case h_1 | h_5 => exact regWrite_answered hpud _ _
  case h_2 | h_4 => exact ⟨_, wait_eq⟩
  case h_3 | h_6 => exact regWrite_answered hclk _ _
  case h_7 => grind

theorem initiateStep_answered (h : s.cfg.indicesLegal = true) (p : Pin) {k : Nat} (h1 : 1 ≤ k)
    (h14 : k ≤ 14) : ∃ t, initiateStep p k s = .next t := by
  unfold initiateStep
  split
  case h_2 | h_7 => exact dirRead_answered h p
  case h_3 | h_8 => exact dirWrite_answered h p _
  case h_5 => exact ⟨_, wait_eq⟩
  case h_9 => exact pullStep_answered h p h1 (by grind)
  all_goals exact levelWrite_answered h p _

theorem pollBody_answered (h : s.cfg.indicesLegal = true) (p : Pin)
    (hroom : s.sub < 2 → s.edgecnt.toNat < 42) : ∃ t, pollBody p s = .next t := by
  obtain ⟨-, -, -, hlev, -⟩ := indices_lt h p
  unfold pollBody
  split
  · exact regRead_answered hlev _
  · split
    · exact ⟨_, recordEdge_ok (hroom (by omega))⟩
    · exact ⟨_, rfl⟩
  · exact ⟨_, rfl⟩

theorem flagBody_answered (h : s.cfg.indicesLegal = true) (p : Pin)
    (hroom : s.edgecnt.toNat < 42) : ∃ t, flagBody p s = .next t := by
  obtain ⟨-, -, -, -, heds, -⟩ := indices_lt h p
  unfold flagBody
  split
  · exact regRead_answered heds _
  · split
    · exact regWrite_answered heds _ _
    · exact ⟨_, rfl⟩
  · exact ⟨_, recordEdge_ok hroom⟩

theorem deadlineTest_answered : ∃ t, deadlineTest s = .next t := by
  unfold deadlineTest
  split <;> exact ⟨_, rfl⟩

theorem captureStep_answered (h : s.Inv) (p : Pin) (n : BitVec 6) (counted : State → State) {k : Nat}
    (hk : s.seq.captureAt = some k) (h1 : 1 ≤ k) (h7 : k ≤ 7) :
    ∃ t, captureStep p n counted k s = .next t := by
  unfold captureStep
  split
  case h_4 => split <;> exact ⟨_, rfl⟩
  case h_5 => exact deadlineTest_answered
  case h_6 =>
    split
    · exact flagBody_answered h.indices p (h.room hk (.inl ‹_›))
    · exact pollBody_answered h.indices p fun hb => h.room hk (.inr hb)
  case h_7 =>
    split
    · exact ⟨_, wait_eq⟩
    · exact ⟨_, rfl⟩
  case h_8 => grind
  all_goals exact ⟨_, rfl⟩

theorem decodeBody_answered (decoded : State → State) : ∃ t, decodeBody decoded s = .next t := by
  unfold decodeBody
  split <;> exact ⟨_, rfl⟩

theorem finalizeBody_answered : ∃ t, finalizeBody s = .next t := by
  unfold finalizeBody
  repeat' split
  all_goals exact ⟨_, rfl⟩

end

/-- Every micro-step of every command in flight is answered. -/
theorem body_answered {i : Instr} {s : State} {k b : Nat} (h : s.Inv) (hs : s.seq = .run i.op k b) :
    ∃ t, commandBody i k s = .next t := by
  obtain ⟨h1, hlast⟩ := h.position hs
  have hidx := h.indices
  cases i with
  | pullup p =>
    simp only [Instr.op, Op.lastStep] at hlast
    simp only [commandBody, pullupStep]
    split
    · exact ⟨_, rfl⟩
    · exact pullStep_answered hidx p h1 (by grind)
  | setdir p d =>
    simp only [Instr.op, Op.lastStep] at hlast
    simp only [commandBody, setdirStep]
    split
    · exact dirRead_answered hidx p
    · exact dirWrite_answered hidx p d
    · exact ⟨_, rfl⟩
    · grind
  | setlvl p l =>
    simp only [Instr.op, Op.lastStep] at hlast
    simp only [commandBody, setlvlStep]
    split
    · exact levelWrite_answered hidx p l
    · exact ⟨_, rfl⟩
    · grind
  | rdlvl p =>
    simp only [Instr.op, Op.lastStep] at hlast
    obtain ⟨-, -, -, hlev, -⟩ := indices_lt hidx p
    simp only [commandBody, rdlvlStep]
    split
    · exact regRead_answered hlev _
    · exact ⟨_, rfl⟩
    · exact ⟨_, rfl⟩
    · grind
  | init p =>
    simp only [Instr.op, Op.lastStep] at hlast
    simp only [commandBody, initStep]
    split
    · exact ⟨_, rfl⟩
    · exact initiateStep_answered hidx p h1 (by grind)
  | capt p n =>
    simp only [Instr.op, Op.lastStep] at hlast
    simp only [commandBody, captStep]
    split
    · exact ⟨_, rfl⟩
    · exact captureStep_answered h p n _ (by simp [hs, Instr.op, Seq.captureAt]) h1 (by grind)
  | dec =>
    simp only [Instr.op, Op.lastStep] at hlast
    obtain rfl : k = 1 := by omega
    exact decodeBody_answered _
  | fin =>
    simp only [Instr.op, Op.lastStep] at hlast
    obtain rfl : k = 1 := by omega
    exact finalizeBody_answered
  | acq p =>
    simp only [Instr.op, Op.lastStep] at hlast
    simp only [commandBody, acqStep]
    split
    case h_8 => exact ⟨_, rfl⟩
    case h_9 => exact decodeBody_answered _
    case h_10 => exact finalizeBody_answered
    case h_11 => exact initiateStep_answered hidx p h1 (by grind)
    all_goals
      exact captureStep_answered h p _ _ (by simp [hs, Instr.op, Seq.captureAt]) (by decide) (by decide)

/-- Settles O52: a command in flight is answered, and every other move is settled or an acceptance. -/
theorem invariantNeverStops : Obligations.InvariantNeverStops := by
  unfold Obligations.InvariantNeverStops
  intro s h
  obtain ⟨m, moves, hf⟩ := fetch_eq_perform s
  simp only [step, hf]
  split
  · rename_i i u hp
    obtain ⟨rfl, hi | hidle⟩ := perform_command hp
    · obtain ⟨k, b, hs⟩ := seq_of_inFlight hi
      rw [exec_inFlight hs hi]
      exact body_answered (h.withScript moves) hs
    · exact ⟨_, exec_idle i hidle⟩
  · exact ⟨_, rfl⟩

end Sys2Proof.Machine
end

section
/-! PROOF. Which command a step runs, and reset (R38, R42, R240). -/

namespace Sys2Proof.Machine

theorem fetch_scripted {s : State} {m : Move} {rest : List Move} (h : s.env.script = m :: rest) :
    fetch s = perform m (s.withScript rest) := by
  simp [fetch, h]

theorem perform_engine {s : State} {i : Instr} (hi : s.inFlight = some i) :
    perform .engine s = .command i s := by
  simp [perform, engineTurn, hi]

theorem perform_commandWrite {s : State} {w : Word} {i : Instr} (hs : s.seq = .idle)
    (hw : decode w = .ok i) : perform (.write 0x00#8 w) s = .command i s := by
  simp [perform, commandWrite, (State.busy_eq_false_iff s).mpr hs, hw]

/-- Settles O12: the three moves that run a command. -/
theorem stepRunsTheCommand : Obligations.StepRunsTheCommand := by
  unfold Obligations.StepRunsTheCommand
  refine ⟨fun s w rest i hm hs hw => ?_, fun s i hm hi => step_engine hm hi,
    fun s rest i hm hi => ?_⟩
  · simp only [step, fetch_scripted hm, perform_commandWrite (s := s.withScript rest) hs hw]
  · simp only [step, fetch_scripted hm, perform_engine (s := s.withScript rest) hi]

/-- The step of the reset event (R240). -/
theorem step_reset {s : State} {rest : List Move} (h : s.env.script = .reset :: rest) :
    step s = .next (resetEvent (s.withScript rest)) := by
  simp only [step, fetch_scripted h, perform]

/-- Settles O58: the fields of `resetEvent`. -/
theorem resetEventValues : Obligations.ResetEventValues := by
  unfold Obligations.ResetEventValues
  intro s rest h
  refine ⟨_, step_reset h, rfl, rfl, rfl, rfl, rfl, rfl, rfl, rfl, rfl, rfl, rfl, rfl, rfl, rfl,
    fun hd => hd, fun i => ?_, rfl, rfl, rfl, fun i => ?_, rfl, rfl, rfl, rfl, rfl, rfl, rfl, rfl,
    ?_, rfl⟩
  · simp [resetEvent, State.reset]
  · simp [resetEvent, State.reset, Timestamp.zero]
  · change State.reset.statusWord = 0#32
    decide

/-- The machine right after reset has the invariant: it is idle, with nothing recorded and nothing valid. -/
theorem reset_inv : State.reset.Inv where
  indices := by decide
  sequencer := trivial
  edges := ⟨by decide, trivial⟩
  data := ⟨fun _ => rfl, fun _ => ⟨rfl, rfl, rfl⟩, nofun, nofun, nofun⟩
  reports := ⟨nofun, fun h => absurd rfl h, nofun, nofun, nofun, nofun, nofun, nofun⟩
  stages := trivial

/-- No answer is scripted and no edge recorded at reset. -/
theorem reset_timeOk : State.reset.timeOk :=
  ⟨List.Pairwise.nil, nofun, fun _ hi => absurd hi (Nat.not_lt_zero _)⟩

/-- The defaults of R7 and R8 are legal, whatever the open TB_RES_NS (log entry 3). -/
theorem default_legal : Params.legal {} = true := by
  obtain ⟨h1, h1000⟩ := tbResOpen_legal
  simp [Params.legal, Params.timesLegal, Params.indicesLegal, Config.surfWords, h1, h1000]

/-- Settles O50: idle, nothing recorded or valid, and the default parameters legal and distinct. -/
theorem resetMeetsInvariants : Obligations.ResetMeetsInvariants := by
  unfold Obligations.ResetMeetsInvariants
  exact ⟨reset_inv, trivial, reset_timeOk, default_legal, by decide⟩

end Sys2Proof.Machine
end

section
/-! PROOF. What one micro-step of each stage leaves, said once with the whole next state: the accesses and
waits of the pin controller and of INIT (R121 to R124, R140), and the capture (R150 to R152). -/

namespace Sys2Proof.Machine

/-! ### Accesses and waits -/

/-- One micro-step whose event, if it has one, is among `A`: a hanging port (U12), one read, one write, or
one observation of a `Wait`. -/
inductive PortStep (A : Event → Prop) (s : State) : State → Prop
  | hangs : PortStep A s s
  | read (idx : Nat) (h : A (.read idx (s.readAnswer idx))) : PortStep A s (s.afterRead idx)
  | write (idx : Nat) (v : Word) (h : A (.write idx v)) : PortStep A s (s.afterWrite idx v)
  | wait (d : Nat) (h : A (.now s.nowAnswer)) : PortStep A s (s.afterWait d)

theorem PortStep.mono {A B : Event → Prop} {s t : State} (h : PortStep A s t) (hAB : ∀ e, A e → B e) :
    PortStep B s t := by
  cases h with
  | hangs => exact .hangs
  | read idx h => exact .read idx (hAB _ h)
  | write idx v h => exact .write idx v (hAB _ h)
  | wait d h => exact .wait d (hAB _ h)

theorem regRead_portStep {A : Event → Prop} {idx : Nat} {s t : State}
    (hA : A (.read idx (s.readAnswer idx))) (h : regRead idx State.advance s = .next t) :
    PortStep A s t := by
  obtain ⟨-, ⟨-, rfl⟩ | ⟨-, rfl⟩⟩ := regRead_next h
  · exact .hangs
  · exact .read idx hA

theorem regWrite_portStep {A : Event → Prop} {idx : Nat} {v : Word} {s t : State}
    (hA : A (.write idx v)) (h : regWrite idx v State.advance s = .next t) : PortStep A s t := by
  obtain ⟨-, ⟨-, rfl⟩ | ⟨-, rfl⟩⟩ := regWrite_next h
  · exact .hangs
  · exact .write idx v hA

theorem wait_portStep {A : Event → Prop} {d : Nat} {s t : State} (hA : A (.now s.nowAnswer))
    (h : wait d s = .next t) : PortStep A s t := by
  rw [wait_eq] at h
  cases h
  exact .wait d hA

/-- The events of the latch sequence (R121). -/
def pullAccess (c : Params) (p : Pin) : Event → Prop
  | .read _ _ => False
  | .write idx v => idx = c.idxPud ∨ (idx = c.idxPudclk ∧ (v = oneHot p ∨ v = 0#32))
  | .now _ => True

/-- The events of a direction change (R122). -/
def dirAccess (c : Params) (p : Pin) : Event → Prop
  | .read _ _ => True
  | .write idx _ => idx = fselIndex c p
  | .now _ => False

/-- The event of a level change (R123). -/
def levelAccess (c : Params) (p : Pin) : Event → Prop
  | .write idx v => (idx = c.idxSet ∨ idx = c.idxClr) ∧ v = oneHot p
  | .read _ _ | .now _ => False

/-- The event of a level read (R124). -/
def senseAccess : Event → Prop
  | .read _ _ => True
  | .write _ _ | .now _ => False

/-- The events of INIT (R140). -/
def initAccess (c : Params) (p : Pin) (e : Event) : Prop :=
  pullAccess c p e ∨ dirAccess c p e ∨ levelAccess c p e

section
variable {p : Pin} {k : Nat} {s t : State}

theorem dirRead_portStep (h : dirRead p s = .next t) : PortStep (dirAccess s.cfg p) s t :=
  regRead_portStep trivial h

theorem dirWrite_portStep {d : Dir} (h : dirWrite p d s = .next t) :
    PortStep (dirAccess s.cfg p) s t :=
  regWrite_portStep rfl h

theorem levelWrite_portStep {l : Level} (h : levelWrite p l s = .next t) :
    PortStep (levelAccess s.cfg p) s t := by
  cases l
  · exact regWrite_portStep ⟨.inr rfl, rfl⟩ h
  · exact regWrite_portStep ⟨.inl rfl, rfl⟩ h

theorem pullStep_portStep (hrun : s.seq ≠ .idle) (h : pullStep p k s = .next t) :
    k ≤ 6 ∧ PortStep (pullAccess s.cfg p) s t := by
  unfold pullStep at h
  split at h
  case h_1 | h_5 => exact ⟨by decide, regWrite_portStep (.inl rfl) h⟩
  case h_2 | h_4 => exact ⟨by decide, wait_portStep trivial h⟩
  case h_3 => exact ⟨by decide, regWrite_portStep (.inr ⟨rfl, .inl rfl⟩) h⟩
  case h_6 => exact ⟨by decide, regWrite_portStep (.inr ⟨rfl, .inr rfl⟩) h⟩
  case h_7 => exact absurd h (stray_ne_next hrun)

theorem initiateStep_portStep (hrun : s.seq ≠ .idle) (h : initiateStep p k s = .next t) :
    k ≤ 14 ∧ PortStep (initAccess s.cfg p) s t := by
  unfold initiateStep at h
  split at h
  case h_2 | h_7 => exact ⟨by decide, (dirRead_portStep h).mono fun _ he => .inr (.inl he)⟩
  case h_3 | h_8 => exact ⟨by decide, (dirWrite_portStep h).mono fun _ he => .inr (.inl he)⟩
  case h_5 => exact ⟨by decide, wait_portStep (.inl trivial) h⟩
  case h_9 =>
    obtain ⟨hk, hp⟩ := pullStep_portStep hrun h
    exact ⟨by omega, hp.mono fun _ he => .inl he⟩
  all_goals exact ⟨by decide, (levelWrite_portStep h).mono fun _ he => .inr (.inr he)⟩

/-! ### The commands of the pin controller and INIT: a micro-step of theirs, or the end -/

theorem pullupStep_cases (hrun : s.seq ≠ .idle) (h : pullupStep p k s = .next t) :
    t = s.complete ∨ k ≤ 6 ∧ PortStep (pullAccess s.cfg p) s t := by
  unfold pullupStep at h
  split at h
  · exact .inl (by simpa using h.symm)
  · exact .inr (pullStep_portStep hrun h)

theorem setdirStep_cases {d : Dir} (hrun : s.seq ≠ .idle) (h : setdirStep p d k s = .next t) :
    t = s.complete ∨ k ≤ 2 ∧ PortStep (dirAccess s.cfg p) s t := by
  unfold setdirStep at h
  split at h
  · exact .inr ⟨by decide, dirRead_portStep h⟩
  · exact .inr ⟨by decide, dirWrite_portStep h⟩
  · exact .inl (by simpa using h.symm)
  · exact absurd h (stray_ne_next hrun)

theorem setlvlStep_cases {l : Level} (hrun : s.seq ≠ .idle) (h : setlvlStep p l k s = .next t) :
    t = s.complete ∨ k ≤ 1 ∧ PortStep (levelAccess s.cfg p) s t := by
  unfold setlvlStep at h
  split at h
  · exact .inr ⟨by decide, levelWrite_portStep h⟩
  · exact .inl (by simpa using h.symm)
  · exact absurd h (stray_ne_next hrun)

theorem rdlvlStep_cases (hrun : s.seq ≠ .idle) (h : rdlvlStep p k s = .next t) :
    t = s.complete ∨ (k ≤ 1 ∧ PortStep senseAccess s t)
      ∨ k = 2 ∧ t = { s with level := pinBit s.tmp p }.advance := by
  unfold rdlvlStep at h
  split at h
  · exact .inr (.inl ⟨by decide, regRead_portStep trivial h⟩)
  · exact .inr (.inr ⟨rfl, by simpa using h.symm⟩)
  · exact .inl (by simpa using h.symm)
  · exact absurd h (stray_ne_next hrun)

theorem initStep_cases (hrun : s.seq ≠ .idle) (h : initStep p k s = .next t) :
    t = s.complete ∨ k ≤ 14 ∧ PortStep (initAccess s.cfg p) s t := by
  unfold initStep at h
  split at h
  · exact .inl (by simpa using h.symm)
  · exact .inr (initiateStep_portStep hrun h)

end

/-! ### The capture -/

/-- Step `j` of the capture on pin `p` for `n` edges, `counted` what reaching the count does (R150). -/
inductive CaptureStep (p : Pin) (n : BitVec 6) (counted : State → State) (s : State) :
    Nat → State → Prop
  | discard : CaptureStep p n counted s 1 (beginCapture s).advance
  | first : CaptureStep p n counted s 2 { s with prev := true }.advance
  | enter : CaptureStep p n counted s 3 { s.observed with t0 := s.nowAnswer }.advance
  | reached (h : s.edgecnt = n) : CaptureStep p n counted s 4 (counted s)
  | short (h : s.edgecnt ≠ n) : CaptureStep p n counted s 4 s.advance
  | late :
      CaptureStep p n counted s 5 ({ s.observed with trunc := true }.raiseErr .captureTimeout)
  | inTime : CaptureStep p n counted s 5 s.observed.advance
  | hangs : CaptureStep p n counted s 6 s
  | sample (idx : Nat) (hb : s.sub = 0) :
      CaptureStep p n counted s 6
        ({ s with
          tmp := s.readAnswer idx, env := s.envAfterRead
          trace := s.trace ++ [Event.read idx (s.readAnswer idx)] }.within 1)
  | clearFlag (hs : s.strategy = true) :
      CaptureStep p n counted s 6
        ({ s with
          surf := s.surf.absorb s.cfg s.cfg.idxEds (oneHot p)
          trace := s.trace ++ [Event.write s.cfg.idxEds (oneHot p)] }.within 2)
  | noEdge (hs : s.strategy = false) : CaptureStep p n counted s 6 (s.within 2)
  | edge (hs : s.strategy = false) (hb : s.sub < 2) (hc : s.edgecnt.toNat < 42) :
      CaptureStep p n counted s 6
        ({ s.observed with
          ts := s.ts.set s.edgecnt.toNat s.nowAnswer hc, edgecnt := s.edgecnt + 1#6 }.within 2)
  | flagged (hs : s.strategy = true) (hc : s.edgecnt.toNat < 42) :
      CaptureStep p n counted s 6
        { s.observed with
          ts := s.ts.set s.edgecnt.toNat s.nowAnswer hc, edgecnt := s.edgecnt + 1#6 }.advance
  | sampled (prev : Bool) : CaptureStep p n counted s 6 { s with prev := prev }.advance
  | noPause : CaptureStep p n counted s 7 s.advance
  | pause (d : Nat) : CaptureStep p n counted s 7 (s.afterWait d)

section
variable {p : Pin} {n : BitVec 6} {counted : State → State} {s t : State}

theorem pollBody_captureStep (hs : s.strategy = false) (h : pollBody p s = .next t) :
    CaptureStep p n counted s 6 t := by
  unfold pollBody at h
  split at h
  · obtain ⟨-, ⟨-, rfl⟩ | ⟨-, rfl⟩⟩ := regRead_next h
    · exact .hangs
    · exact .sample _ ‹_›
  · rename_i hb
    split at h
    · obtain ⟨hc, rfl⟩ := recordEdge_next h
      exact .edge hs (by omega) hc
    · cases h
      exact .noEdge hs
  · cases h
    exact .sampled _

theorem flagBody_captureStep (hs : s.strategy = true) (h : flagBody p s = .next t) :
    CaptureStep p n counted s 6 t := by
  unfold flagBody at h
  split at h
  · obtain ⟨-, ⟨-, rfl⟩ | ⟨-, rfl⟩⟩ := regRead_next h
    · exact .hangs
    · exact .sample _ ‹_›
  · split at h
    · obtain ⟨-, ⟨-, rfl⟩ | ⟨-, rfl⟩⟩ := regWrite_next h
      · exact .hangs
      · exact .clearFlag hs
    · cases h
      exact .sampled s.prev
  · obtain ⟨hc, rfl⟩ := recordEdge_next h
    exact .flagged hs hc

theorem captureStep_cases {k : Nat} (hrun : s.seq ≠ .idle)
    (h : captureStep p n counted k s = .next t) : CaptureStep p n counted s k t := by
  unfold captureStep at h
  split at h
  case h_1 =>
    cases h
    exact .discard
  case h_2 =>
    cases h
    exact .first
  case h_3 =>
    cases h
    exact .enter
  case h_4 =>
    split at h <;> cases h
    · exact .reached ‹_›
    · exact .short ‹_›
  case h_5 =>
    unfold deadlineTest at h
    split at h <;> cases h
    · exact .late
    · exact .inTime
  case h_6 =>
    split at h
    · exact flagBody_captureStep ‹_› h
    · exact pollBody_captureStep (Bool.eq_false_iff.mpr ‹_›) h
  case h_7 =>
    split at h
    · rw [wait_eq] at h
      cases h
      exact .pause _
    · cases h
      exact .noPause
  case h_8 => exact absurd h (stray_ne_next hrun)

end

/-- CAPT repeats its step 4 at step 8, and makes a capture step at any other (R150). -/
theorem captStep_cases {p : Pin} {n : BitVec 6} {k : Nat} {s t : State} (hrun : s.seq ≠ .idle)
    (h : captStep p n k s = .next t) :
    (k = 8 ∧ t = s.goto 4) ∨ CaptureStep p n State.complete s k t := by
  unfold captStep at h
  split at h
  · exact .inl ⟨rfl, by simpa using h.symm⟩
  · exact .inr (captureStep_cases hrun h)

/-- ACQ's micro-step is one of its stages' (R200). -/
theorem acqStep_cases {p : Pin} {k : Nat} {s t : State} (hrun : s.seq ≠ .idle)
    (h : acqStep p k s = .next t) :
    (k ≤ 14 ∧ PortStep (initAccess s.cfg p) s t)
      ∨ (∃ j, k = j + 14 ∧ 1 ≤ j ∧ j ≤ 7 ∧ CaptureStep p 42#6 (State.goto 23) s j t)
      ∨ (k = 22 ∧ t = s.goto 18)
      ∨ (k = 23 ∧ decodeBody (State.goto 24) s = .next t)
      ∨ k = 24 ∧ finalizeBody s = .next t := by
  unfold acqStep at h
  split at h
  case h_8 => exact .inr (.inr (.inl ⟨rfl, by simpa using h.symm⟩))
  case h_9 => exact .inr (.inr (.inr (.inl ⟨rfl, h⟩)))
  case h_10 => exact .inr (.inr (.inr (.inr ⟨rfl, h⟩)))
  case h_11 => exact .inl (initiateStep_portStep hrun h)
  all_goals exact .inr (.inl ⟨_, rfl, by decide, by decide, captureStep_cases hrun h⟩)

end Sys2Proof.Machine
end

section
/-! PROOF. What every command in flight leaves alone, whichever it is (R36, R40, R43, R76). -/

namespace Sys2Proof.Machine

@[simp] theorem State.envAfterNow_freePulls (s : State) :
    s.envAfterNow.freePulls = s.env.freePulls := by
  unfold State.envAfterNow; split <;> rfl
@[simp] theorem State.envAfterRead_freePulls (s : State) :
    s.envAfterRead.freePulls = s.env.freePulls := by
  unfold State.envAfterRead; split <;> rfl

/-! ### The command in SEQ -/

/-- The opcode in SEQ, if a command is in flight. -/
def Seq.op? : Seq → Option Op
  | .idle => none
  | .run op _ _ => some op

@[simp] theorem Seq.op?_advance (q : Seq) : q.advance.op? = q.op? := by cases q <;> rfl
@[simp] theorem Seq.op?_within (b : Nat) (q : Seq) : (q.within b).op? = q.op? := by cases q <;> rfl
@[simp] theorem Seq.op?_goto (k : Nat) (q : Seq) : (q.goto k).op? = q.op? := by cases q <;> rfl

/-- The opcode in SEQ and the latched operands say what is in flight (R36, R38). -/
theorem State.inFlight_eq_map (s : State) :
    s.inFlight = s.seq.op?.map fun op => op.instr s.pinl s.argl s.maxe := by
  unfold State.inFlight
  split <;> simp [*, Seq.op?]

/-- The control registers, the inputs that answer nothing, and, until it ends, the command in SEQ are the
same. -/
def keepsControl (s t : State) : Prop :=
  sameControl s t ∧ sameInputs s t ∧ (t.seq = .idle ∨ t.seq.op? = s.seq.op?)

theorem keepsControl_complete (s : State) : keepsControl s s.complete := by
  simp [keepsControl, sameControl, sameInputs]

theorem keepsControl_goto (k : Nat) (s : State) : keepsControl s (s.goto k) := by
  simp [keepsControl, sameControl, sameInputs]

/-! ### The accesses and waits -/

/-- The data registers, the control registers, ERR, the inputs that answer nothing, PREV and T0 are the
same: what the pin controller and INIT leave alone. -/
def keepsWork (s t : State) : Prop :=
  keepsRegisters s t ∧ sameInputs s t ∧ t.prev = s.prev ∧ t.t0 = s.t0

theorem keepsWork_complete (s : State) : keepsWork s s.complete :=
  ⟨keepsRegisters_complete s, (keepsControl_complete s).2.1, rfl, rfl⟩

section
variable {A : Event → Prop} {s t : State} (h : PortStep A s t)
include h

theorem PortStep.keepsWork : keepsWork s t := by
  cases h <;>
    simp [Machine.keepsWork, keepsRegisters, sameData, sameControl, sameInputs, State.afterRead,
      State.afterWrite, State.afterWait]

theorem PortStep.done_eq : t.done = s.done := by
  cases h <;> rfl

theorem PortStep.level_eq : t.level = s.level := by
  cases h <;> rfl

theorem PortStep.seq_cases : t.seq = s.seq ∨ t.seq = s.seq.advance ∨ t.seq = s.seq.within 1 := by
  cases h with
  | hangs => exact .inl rfl
  | read | write => exact .inr (.inl rfl)
  | wait =>
    simp only [State.afterWait]
    repeat' split
    all_goals simp

theorem PortStep.keepsControl : keepsControl s t := by
  obtain ⟨⟨-, hcontrol, -⟩, hinputs, -⟩ := h.keepsWork
  refine ⟨hcontrol, hinputs, .inr ?_⟩
  obtain hs | hs | hs := h.seq_cases <;> simp [hs]

end

/-! ### The capture -/

theorem CaptureStep.keepsControl {p : Pin} {n : BitVec 6} {counted : State → State} {j : Nat}
    {s t : State} (hcounted : keepsControl s (counted s)) (h : CaptureStep p n counted s j t) :
    keepsControl s t := by
  cases h with
  | reached => exact hcounted
  | pause d => exact PortStep.keepsControl (A := fun _ => True) (.wait d trivial)
  | discard | first | enter | short | late | inTime | hangs | sample | clearFlag | noEdge | edge
  | flagged | sampled | noPause =>
    simp [Machine.keepsControl, sameControl, sameInputs, beginCapture]

/-! ### The decoder and the validator -/

theorem decStep_next {k : Nat} {s t : State} (hrun : s.seq ≠ .idle) (h : decStep k s = .next t) :
    decodeBody State.complete s = .next t := by
  unfold decStep at h
  split at h
  · exact h
  · exact absurd h (stray_ne_next hrun)

theorem finStep_next {k : Nat} {s t : State} (hrun : s.seq ≠ .idle) (h : finStep k s = .next t) :
    finalizeBody s = .next t := by
  unfold finStep at h
  split at h
  · exact h
  · exact absurd h (stray_ne_next hrun)

/-- Everything but PAYLOAD, PVALID, RESULT, RVALID, DONE, ERR and SEQ is the same. -/
def keepsAllButResults (s t : State) : Prop :=
  sameControl s t ∧ t.env = s.env ∧ t.surf = s.surf ∧ t.trace = s.trace ∧ t.ts = s.ts
    ∧ t.edgecnt = s.edgecnt ∧ t.trunc = s.trunc ∧ t.level = s.level ∧ t.prev = s.prev
    ∧ t.t0 = s.t0 ∧ t.tw = s.tw ∧ t.tmp = s.tmp

/-- What the decoder leaves (R170, R174): InsufficientEdges, or the decoded payload. -/
theorem decodeBody_cases {decoded : State → State} {s t : State}
    (h : decodeBody decoded s = .next t) :
    (s.edgecnt.toNat < 42 ∧ t = s.clearPayload.clearResult.raiseErr .insufficientEdges)
      ∨ (¬s.edgecnt.toNat < 42
        ∧ t = decoded
          { s.clearResult with pvalid := true, payload := frameDecode s.cfg.threshUs s.ts }) := by
  unfold decodeBody at h
  split at h <;> cases h
  · exact .inl ⟨‹_›, rfl⟩
  · exact .inr ⟨‹_›, rfl⟩

/-- What the validator leaves (R185, R186, R190): NoPayload, ChecksumMismatch, or the Reading. -/
theorem finalizeBody_cases {s t : State} (h : finalizeBody s = .next t) :
    (s.pvalid = false ∧ t = s.clearResult.raiseErr .noPayload)
      ∨ (s.pvalid = true ∧ finalize s.payload s.signmode = none
        ∧ t = s.clearResult.raiseErr .checksumMismatch)
      ∨ ∃ r, s.pvalid = true ∧ finalize s.payload s.signmode = some r
        ∧ t = { s with rvalid := true, hum := r.hum, tmag := r.tmag, neg := r.neg }.complete := by
  unfold finalizeBody at h
  split at h
  · cases h
    exact .inl ⟨‹_›, rfl⟩
  · have hp : s.pvalid = true := by simpa using ‹¬s.pvalid = false›
    split at h <;> cases h
    · exact .inr (.inl ⟨hp, ‹_›, rfl⟩)
    · exact .inr (.inr ⟨_, hp, ‹_›, rfl⟩)

theorem finalizeBody_keeps {s t : State} (h : finalizeBody s = .next t) :
    keepsAllButResults s t ∧ t.payload = s.payload ∧ t.pvalid = s.pvalid ∧ t.seq = .idle := by
  obtain ⟨-, rfl⟩ | ⟨-, -, rfl⟩ | ⟨r, -, -, rfl⟩ := finalizeBody_cases h <;>
    simp [keepsAllButResults, sameControl]

theorem decodeBody_complete_keeps {s t : State} (h : decodeBody State.complete s = .next t) :
    keepsAllButResults s t ∧ t.seq = .idle := by
  obtain ⟨-, rfl⟩ | ⟨-, rfl⟩ := decodeBody_cases h <;> simp [keepsAllButResults, sameControl]

theorem decodeBody_goto_keeps {k : Nat} {s t : State} (h : decodeBody (State.goto k) s = .next t) :
    keepsAllButResults s t ∧ (t.seq = .idle ∨ t.seq.op? = s.seq.op?) := by
  obtain ⟨-, rfl⟩ | ⟨-, rfl⟩ := decodeBody_cases h <;> simp [keepsAllButResults, sameControl]

theorem keepsAllButResults.keepsControl {s t : State} (h : keepsAllButResults s t)
    (hs : t.seq = .idle ∨ t.seq.op? = s.seq.op?) : keepsControl s t := by
  obtain ⟨hcontrol, henv, -⟩ := h
  exact ⟨hcontrol, by simp [sameInputs, henv], hs⟩

/-! ### Every command -/

/-- No command in flight changes the control registers, the inputs or the command in flight but by ending
(R36, R40, R43). -/
theorem body_keepsControl {i : Instr} {k b : Nat} {s t : State} (hs : s.seq = .run i.op k b)
    (h : commandBody i k s = .next t) : keepsControl s t := by
  have hrun : s.seq ≠ .idle := by simp [hs]
  cases i with
  | pullup p =>
    obtain rfl | ⟨-, hp⟩ := pullupStep_cases hrun h
    · exact keepsControl_complete s
    · exact hp.keepsControl
  | setdir p d =>
    obtain rfl | ⟨-, hp⟩ := setdirStep_cases hrun h
    · exact keepsControl_complete s
    · exact hp.keepsControl
  | setlvl p l =>
    obtain rfl | ⟨-, hp⟩ := setlvlStep_cases hrun h
    · exact keepsControl_complete s
    · exact hp.keepsControl
  | rdlvl p =>
    obtain rfl | ⟨-, hp⟩ | ⟨-, rfl⟩ := rdlvlStep_cases hrun h
    · exact keepsControl_complete s
    · exact hp.keepsControl
    · simp [keepsControl, sameControl, sameInputs]
  | init p =>
    obtain rfl | ⟨-, hp⟩ := initStep_cases hrun h
    · exact keepsControl_complete s
    · exact hp.keepsControl
  | capt p n =>
    obtain ⟨-, rfl⟩ | hc := captStep_cases hrun h
    · exact keepsControl_goto 4 s
    · exact hc.keepsControl (keepsControl_complete s)
  | dec =>
    obtain ⟨hk, hidle⟩ := decodeBody_complete_keeps (decStep_next hrun h)
    exact hk.keepsControl (.inl hidle)
  | fin =>
    obtain ⟨hk, -, -, hidle⟩ := finalizeBody_keeps (finStep_next hrun h)
    exact hk.keepsControl (.inl hidle)
  | acq p =>
    obtain ⟨-, hp⟩ | ⟨j, -, -, -, hc⟩ | ⟨-, rfl⟩ | ⟨-, hd⟩ | ⟨-, hf⟩ := acqStep_cases hrun h
    · exact hp.keepsControl
    · exact hc.keepsControl (keepsControl_goto 23 s)
    · exact keepsControl_goto 18 s
    · obtain ⟨hk, hseq⟩ := decodeBody_goto_keeps hd
      exact hk.keepsControl hseq
    · obtain ⟨hk, -, -, hidle⟩ := finalizeBody_keeps hf
      exact hk.keepsControl (.inl hidle)

theorem exec_keepsControl {i : Instr} {s t : State} (hi : s.inFlight = some i)
    (h : exec i s = .next t) : keepsControl s t := by
  obtain ⟨k, b, hs⟩ := seq_of_inFlight hi
  rw [exec_inFlight hs hi] at h
  exact body_keepsControl hs h

end Sys2Proof.Machine
end

section
/-! PROOF. Which move a step makes and what it leaves, said once (R5, R25, R66, R67, R240), and what no move
but reset, or no move of the host, can change. -/

namespace Sys2Proof.Machine

/-! ### The moves -/

/-- What the move `m` leaves: one step of the command in flight, an acceptance, a write rejected while BUSY or
stored while not, what the host has seen, what goes on outside OWPE, or the reset event. -/
inductive MoveStep (s : State) : Move → State → Prop
  | engine {i : Instr} {t : State} (hi : s.inFlight = some i) (h : exec i s = .next t) :
      MoveStep s .engine t
  | idle (h : s.seq = .idle) : MoveStep s .engine s
  | accepted {m : Move} (w : Word) (h : s.seq = .idle) : MoveStep s m (acceptWord w s)
  | rejected {m : Move} (h : s.seq ≠ .idle) : MoveStep s m s.reject
  | stored {m : Move} (strategy signmode : Bool) (timeout : Word) (h : s.seq = .idle) :
      MoveStep s m { s with strategy := strategy, signmode := signmode, timeout := timeout }
  | looked {m : Move} (seen : List (BitVec 8 × Word)) (moves : List Move) :
      MoveStep s m ({ s with seen := seen }.withScript moves)
  | outside {m : Move} (env : Env) (surf : Surface) (hm : m.byHost = false) :
      MoveStep s m { s with env := env, surf := surf }
  | reset : MoveStep s .reset (resetEvent s)

section
variable {s t : State} {m : Move} {w : Word}

/-- A CMD write runs a command only where it is accepted (R96). -/
theorem commandWrite_command {i : Instr} {u : State} (h : commandWrite w s = .command i u) :
    u = s ∧ s.seq = .idle ∧ decode w = .ok i := by
  unfold commandWrite at h
  split at h
  · cases h
  · rename_i hb
    split at h
    · cases h
      exact ⟨rfl, (State.busy_eq_false_iff s).mp (by simpa using hb), ‹_›⟩
    · cases h

theorem commandWrite_settled (h : commandWrite w s = .settled t) :
    (s.seq ≠ .idle ∧ t = s.reject) ∨ (s.seq = .idle ∧ t = acceptWord w s) := by
  unfold commandWrite at h
  split at h
  · cases h
    exact .inl ⟨(State.busy_iff s).mp ‹_›, rfl⟩
  · rename_i hb
    split at h <;> cases h
    exact .inr ⟨(State.busy_eq_false_iff s).mp (by simpa using hb), rfl⟩

/-- A write of CONFIG or TIMEOUT is stored while not BUSY and rejected while BUSY, any other is ignored
(R25, R26, R27, R44). -/
theorem hostWrite_moveStep (off : BitVec 8) (v : Word) (s : State) :
    MoveStep s m (hostWrite off v s) := by
  unfold hostWrite
  split
  · split
    · exact .rejected ((State.busy_iff s).mp ‹_›)
    · exact .stored _ _ s.timeout ((State.busy_eq_false_iff s).mp (by simpa using ‹¬s.busy = true›))
  · split
    · exact .rejected ((State.busy_iff s).mp ‹_›)
    · exact .stored s.strategy s.signmode v
        ((State.busy_eq_false_iff s).mp (by simpa using ‹¬s.busy = true›))
  · exact .looked s.seen s.env.script

theorem hostRead_moveStep (off : BitVec 8) (s : State) : MoveStep s m (hostRead off s) :=
  .looked (s.seen ++ [(off, s.hostWord off)]) s.env.script

theorem otherMaster_moveStep (idx : Nat) (v : Word) (s : State) (hm : m.byHost = false) :
    MoveStep s m (otherMaster idx v s) := by
  simp only [otherMaster]
  split
  · exact .outside _ _ hm
  · exact .outside s.env _ hm

theorem perform_settled_moveStep (h : perform m s = .settled t) : MoveStep s m t := by
  cases m with
  | engine =>
    simp only [perform, engineTurn] at h
    split at h <;> cases h
    exact .idle (State.inFlight_eq_none ‹_›)
  | write off v =>
    simp only [perform] at h
    split at h
    · obtain ⟨hb, rfl⟩ | ⟨hb, rfl⟩ := commandWrite_settled h
      · exact .rejected hb
      · exact .accepted v hb
    · cases h
      exact hostWrite_moveStep off v s
  | read off =>
    cases h
    exact hostRead_moveStep off s
  | poll =>
    simp only [perform] at h
    split at h <;> cases h
    · exact .looked _ _
    · exact hostRead_moveStep _ s
  | reset =>
    cases h
    exact .reset
  | flags v | line v =>
    cases h
    exact .outside s.env _ rfl
  | master idx v =>
    cases h
    exact otherMaster_moveStep idx v s rfl

theorem perform_command_moveStep {i : Instr} {u : State} (h : perform m s = .command i u)
    (ht : exec i u = .next t) : MoveStep s m t := by
  cases m with
  | engine =>
    simp only [perform, engineTurn] at h
    split at h <;> cases h
    exact .engine ‹_› ht
  | write off v =>
    simp only [perform] at h
    split at h
    · obtain ⟨rfl, hidle, -⟩ := commandWrite_command h
      rw [exec_idle i hidle] at ht
      cases ht
      exact .accepted _ hidle
    · cases h
  | poll =>
    simp only [perform] at h
    split at h <;> cases h
  | read | reset | flags | line | master => cases h

/-- Every step is the script's next move, the ENGINE's where the script is empty (log entry 7). -/
theorem step_moveStep (h : step s = .next t) :
    ∃ m moves, s.env.script.headD .engine = m ∧ MoveStep (s.withScript moves) m t := by
  have hf : fetch s = perform (s.env.script.headD .engine) (s.withScript s.env.script.tail) := by
    unfold fetch
    split <;> rename_i hm
    · have hs : s.withScript s.env.script = s := rfl
      rw [hm] at hs ⊢
      simp [perform, hs]
    · simp [hm]
  refine ⟨_, s.env.script.tail, rfl, ?_⟩
  simp only [step, hf] at h
  split at h
  · exact perform_command_moveStep ‹_› h
  · cases h
    exact perform_settled_moveStep ‹_›

/-- What a step that is no reset leaves. -/
theorem step_moveStep_of_ne_reset (hne : s.env.script.head? ≠ some .reset) (h : step s = .next t) :
    ∃ m moves, m ≠ .reset ∧ MoveStep (s.withScript moves) m t := by
  obtain ⟨m, moves, hm, hmove⟩ := step_moveStep h
  refine ⟨m, moves, ?_, hmove⟩
  rintro rfl
  cases hs : s.env.script <;> simp_all

end

/-! ### The parameters, FATAL, the operands -/

theorem acceptWord_cfg (w : Word) (s : State) : (acceptWord w s).cfg = s.cfg := by
  simp only [acceptWord]
  repeat' split
  all_goals rfl

/-- With FATAL set a word ends at acceptance, legal or not (R212). -/
theorem acceptWord_of_fatal (w : Word) {s : State} (h : s.fatal = true) :
    ∃ e, acceptWord w s = { s with rej := false, done := true, err := e, cmd := w } := by
  cases hd : decode w with
  | error why => exact ⟨_, acceptWord_illegal hd⟩
  | ok i => exact ⟨_, acceptWord_fatal hd h⟩

/-- Settles O56: acceptance, reset and every command keep the parameters. -/
theorem parametersNeverChange : Obligations.ParametersNeverChange := by
  unfold Obligations.ParametersNeverChange
  intro s t h
  obtain ⟨m, moves, -, hmove⟩ := step_moveStep h
  cases hmove with
  | engine hi h =>
    obtain ⟨⟨-, -, -, -, -, -, -, -, -, -, hcfg, -⟩, -⟩ := exec_keepsControl hi h
    exact hcfg
  | accepted w => exact acceptWord_cfg w _
  | idle | rejected | stored | looked | outside | reset => rfl

/-- Settles O54: a word accepted under FATAL starts nothing, and no command clears FATAL. -/
theorem fatalUntilReset : Obligations.FatalUntilReset := by
  unfold Obligations.FatalUntilReset
  intro s t hf hne h
  obtain ⟨m, moves, hne, hmove⟩ := step_moveStep_of_ne_reset hne h
  cases hmove with
  | engine hi h =>
    obtain ⟨⟨-, hfatal, -⟩, -⟩ := exec_keepsControl hi h
    refine ⟨hfatal.trans hf, fun hidle => ?_⟩
    rw [State.inFlight_idle (s := s.withScript moves) hidle] at hi
    cases hi
  | accepted w =>
    obtain ⟨e, he⟩ := acceptWord_of_fatal w (s := s.withScript moves) hf
    rw [he]
    exact ⟨hf, fun hidle => ⟨hidle, rfl⟩⟩
  | reset => contradiction
  | idle | rejected | stored | looked | outside => exact ⟨hf, fun hidle => ⟨hidle, rfl⟩⟩

/-- Settles O55: the command in flight keeps its operands, and a busy OWPE stores no write. -/
theorem operandsFixedWhileBusy : Obligations.OperandsFixedWhileBusy := by
  unfold Obligations.OperandsFixedWhileBusy
  intro s t hbusy hne h
  obtain ⟨m, moves, hne, hmove⟩ := step_moveStep_of_ne_reset hne h
  cases hmove with
  | engine hi h =>
    obtain ⟨⟨hcmd, -, -, hstr, hsgn, htmo, hopc, hpin, harg, hmax, -, -⟩, -, hseq⟩ :=
      exec_keepsControl hi h
    refine ⟨hcmd, hopc, hpin, harg, hmax, hstr, hsgn, htmo, hseq.imp_right fun hop => ?_⟩
    rw [State.inFlight_eq_map, State.inFlight_eq_map, hop, hpin, harg, hmax]
    rfl
  | accepted _ hidle | stored _ _ _ hidle | idle hidle => exact absurd hidle hbusy
  | reset => contradiction
  | rejected | looked | outside =>
    exact ⟨rfl, rfl, rfl, rfl, rfl, rfl, rfl, rfl, .inr rfl⟩

/-! ### The host writes no data (R43) -/

/-- The data and working registers, LEVEL, the surface and the trace are the same. -/
def keepsDataAndSurface (s t : State) : Prop :=
  sameData s t ∧ t.trace = s.trace ∧ t.surf = s.surf ∧ t.level = s.level ∧ t.prev = s.prev
    ∧ t.t0 = s.t0 ∧ t.tw = s.tw ∧ t.tmp = s.tmp

theorem acceptWord_keepsDataAndSurface (w : Word) (s : State) :
    keepsDataAndSurface s (acceptWord w s) := by
  simp only [acceptWord]
  repeat' split
  all_goals simp [keepsDataAndSurface, sameData]

/-- Settles O57: a host move is an acceptance, a rejection, a store into CONFIG or TIMEOUT, or a look. -/
theorem hostWritesNoData : Obligations.HostWritesNoData := by
  unfold Obligations.HostWritesNoData
  intro s t m rest hm hhost h
  have hby : m.byHost = true := by
    obtain ⟨off, rfl⟩ | ⟨off, v, rfl⟩ | rfl := hhost <;> rfl
  obtain ⟨m', moves, hm', hmove⟩ := step_moveStep h
  obtain rfl : m = m' := by simpa [hm] using hm'
  cases hmove with
  | engine | idle | reset => cases hby
  | outside _ _ hout => simp [hby] at hout
  | accepted w => exact acceptWord_keepsDataAndSurface w (s.withScript moves)
  | rejected | stored | looked => simp [sameData]

end Sys2Proof.Machine
end

section
/-! PROOF. Every step keeps the machine's invariant (R24, R31, R33, R36, R38, R157, R190, R210). -/

namespace Sys2Proof.Machine

/-! ### Acceptance -/

/-- Without a command in flight only the parameters, the edge count, the data and the reports matter. -/
theorem inv_of_idle {t : State} (hidle : t.seq = .idle) (hidx : t.cfg.indicesLegal = true)
    (hcnt : t.edgecnt.toNat ≤ 42) (hdata : t.dataOk) (hreports : t.reportsOk) : t.Inv :=
  ⟨hidx, by simp [State.sequencerOk, hidle], ⟨hcnt, by simp [hidle, Seq.captureAt]⟩, hdata, hreports,
    by simp [State.stagesOk, hidle]⟩

/-- A running command reports nothing but TRUNC. -/
theorem reportsOk_of_running {s : State} (herr : s.err = .none)
    (htrunc : s.trunc = true → s.edgecnt.toNat < 42) : s.reportsOk := by
  simpa [State.reportsOk, herr] using htrunc

/-- The last micro-step of a command is not before its first. -/
theorem one_le_lastStep (op : Op) : 1 ≤ Op.lastStep op := by cases op <;> decide

/-- ACQ has no MAXEDGES field: the MAXE it latches is no operand of its word (R36, R91). -/
theorem instr_acq_maxe (op : Op) (p : Pin) (a : Bool) (n : BitVec 6) :
    op.instr p a (if op.code = 0x9#4 then 42#6 else n) = op.instr p a n := by
  cases op <;> rfl

/-- A command at its first micro-step is not past the first step of a capture. -/
theorem captureAt_first {op : Op} {b j : Nat} (h : (Seq.run op 1 b).captureAt = some j) : j = 1 := by
  cases op <;> simp_all [Seq.captureAt]

/-- A command that starts has its operands latched and stands at its first micro-step (R36, R96). -/
theorem acceptWord_starts_inv {w : Word} {i : Instr} {s : State} (hi : s.Inv) (hd : decode w = .ok i)
    (hf : s.fatal = false) (hs : i.op.touchesSurface = true → s.env.surfaceOk = true) :
    (acceptWord w s).Inv := by
  obtain ⟨htrunc, -⟩ := hi.reports
  obtain ⟨hpay, hres, hpv, hrv, -⟩ := hi.data
  obtain ⟨op, hop, -, hcapt, rfl⟩ := decode_ok hd
  rw [acceptWord_starts hd hf hs, Op.op_instr, hop]
  refine ⟨hi.indices, ⟨le_rfl, one_le_lastStep op, rfl, rfl, rfl, hf, ?_, ?_, ?_⟩, ⟨hi.edges.1, ?_⟩,
    ⟨hpay, hres, hpv, hrv, ?_⟩, reportsOk_of_running rfl htrunc, ?_⟩
  · rw [hd, ← instr_acq_maxe]
  · rintro rfl
    exact hcapt rfl
  · rintro rfl
    rfl
  · split
    · trivial
    · obtain rfl := captureAt_first ‹_›
      simp
  · intro j hj h2
    obtain rfl := captureAt_first hj
    simp at h2
  · simp [State.stagesOk]

/-- Acceptance keeps the invariant, whether the command starts or is turned away (R96, R98, R212). -/
theorem acceptWord_inv (w : Word) {s : State} (hidle : s.seq = .idle) (hi : s.Inv) :
    (acceptWord w s).Inv := by
  obtain ⟨htrunc, -⟩ := hi.reports
  cases hd : decode w with
  | error why =>
    rw [acceptWord_illegal hd]
    exact inv_of_idle hidle hi.indices hi.edges.1 hi.data
      ⟨htrunc, fun _ => rfl, nofun, nofun, nofun, nofun, nofun, fun _ => ⟨why, hd⟩⟩
  | ok i =>
    cases hf : s.fatal with
    | true =>
      rw [acceptWord_fatal hd hf]
      exact inv_of_idle hidle hi.indices hi.edges.1 hi.data
        ⟨htrunc, fun _ => rfl, fun _ => hf, nofun, nofun, nofun, nofun, nofun⟩
    | false =>
      by_cases hs : i.op.touchesSurface = true → s.env.surfaceOk = true
      · exact acceptWord_starts_inv hi hd hf hs
      · simp only [Classical.not_imp, Bool.not_eq_true] at hs
        rw [acceptWord_unreachable hd hf hs.1 hs.2]
        exact inv_of_idle hidle hi.indices hi.edges.1 hi.data
          ⟨htrunc, fun _ => rfl, fun _ => rfl, nofun, nofun, nofun, nofun, nofun⟩

/-! ### A command in flight -/

/-- What a step of the command in flight leaves alone while it runs: the control registers, DONE, ERR. -/
def keepsStatus (s t : State) : Prop := sameControl s t ∧ t.done = s.done ∧ t.err = s.err

section
variable {s t : State} {op : Op} {k b k' b' : Nat}

/-- A running command has ERR = 0 (R35). -/
theorem State.sequencerOk.err_none (h : s.sequencerOk) (hs : s.seq = .run op k b) :
    s.err = .none := by
  simp only [State.sequencerOk, hs] at h
  obtain ⟨-, -, -, -, herr, -⟩ := h
  exact herr

/-- The sequencer's part of the invariant moves with SEQ. -/
theorem State.sequencerOk.move (h : s.sequencerOk) (hs : s.seq = .run op k b)
    (ht : t.seq = .run op k' b') (h1 : 1 ≤ k') (hlast : k' ≤ Op.lastStep op)
    (hstatus : keepsStatus s t) : t.sequencerOk := by
  obtain ⟨⟨hcmd, hfatal, -, -, -, -, hopc, hpin, harg, hmax, -, -⟩, hdone, herr⟩ := hstatus
  simp only [State.sequencerOk, hs] at h
  obtain ⟨-, -, hrest⟩ := h
  simp only [State.sequencerOk, ht, hcmd, hfatal, hopc, hpin, harg, hmax, hdone, herr]
  exact ⟨h1, hlast, hrest⟩

/-- A command that ends without an error keeps the invariant (R215). -/
theorem State.Inv.complete (h : s.Inv) : s.complete.Inv := by
  obtain ⟨hpay, hres, hpv, hrv, -⟩ := h.data
  obtain ⟨htrunc, -, hrest⟩ := h.reports
  exact inv_of_idle rfl h.indices h.edges.1 ⟨hpay, hres, hpv, hrv, nofun⟩
    ⟨htrunc, fun _ => rfl, hrest⟩

/-- Where SEQ moves to a position outside the capture and the data registers stay, so does the invariant. -/
theorem State.Inv.move (h : s.Inv) (hs : s.seq = .run op k b) (ht : t.seq = .run op k' b')
    (h1 : 1 ≤ k') (hlast : k' ≤ Op.lastStep op) (hcap : ∀ j, t.seq.captureAt = some j → j ≤ 1)
    (hstages : t.stagesOk) (hdata : sameData s t) (hstatus : keepsStatus s t) : t.Inv := by
  have hseq := h.sequencer.move hs ht h1 hlast hstatus
  obtain ⟨⟨-, -, -, -, -, -, -, -, -, -, hcfg, -⟩, -⟩ := hstatus
  obtain ⟨hpay, hres, hpv, hrv, -⟩ := h.data
  obtain ⟨htrunc, -⟩ := h.reports
  obtain ⟨hts, hcnt, htr, hp, hpvalid, hhum, htmag, hneg, hrvalid⟩ := hdata
  refine ⟨hcfg ▸ h.indices, hseq, ⟨hcnt ▸ h.edges.1, ?_⟩, ?_,
    reportsOk_of_running (hseq.err_none ht) (by rwa [htr, hcnt]), hstages⟩
  · split
    · trivial
    · have := hcap _ ‹_›
      exact ⟨by omega, by omega, by omega, by omega⟩
  · simp only [State.dataOk, hp, hpvalid, hrvalid, hhum, htmag, hneg, hts, hcnt, hcfg]
    exact ⟨hpay, hres, hpv, hrv, fun j hj h2 => absurd (hcap j hj) (by omega)⟩

/-- The positions of SEQ outside the capture and its later stages. -/
theorem captureAt_le_one {q : Seq} (hq : q = .run op k b) (hop : op ≠ .capt) (hk : k ≤ 15) (j : Nat)
    (hj : q.captureAt = some j) : j ≤ 1 := by
  subst hq
  cases op <;> simp [Seq.captureAt] at hop hj
  omega

theorem stagesOk_of_le (hs : s.seq = .run op k b) (hk : k ≤ 22) : s.stagesOk := by
  unfold State.stagesOk
  rw [hs]
  split
  · simp_all
  · simp_all
  · trivial

/-- A step of the pin controller or of INIT keeps the invariant: it changes none of its registers, and SEQ
stays before the capture. -/
theorem State.Inv.port {A : Event → Prop} {m : Nat} (h : s.Inv) (hs : s.seq = .run op k b)
    (hop : op ≠ .capt) (hk : k ≤ m) (h14 : m ≤ 14) (hlast : m < Op.lastStep op)
    (hp : PortStep A s t) : t.Inv := by
  obtain ⟨k', b', ht, h1, hk', hlast'⟩ :
      ∃ k' b', t.seq = .run op k' b' ∧ 1 ≤ k' ∧ k' ≤ 15 ∧ k' ≤ Op.lastStep op := by
    obtain ⟨h1, -⟩ := h.position hs
    obtain hq | hq | hq := hp.seq_cases <;> rw [hs] at hq
    · exact ⟨k, b, hq, h1, by omega, by omega⟩
    · exact ⟨k + 1, 0, hq, by omega, by omega, by omega⟩
    · exact ⟨k, 1, hq, h1, by omega, by omega⟩
  obtain ⟨⟨hdata, hcontrol, herr⟩, -⟩ := hp.keepsWork
  exact h.move hs ht h1 hlast' (captureAt_le_one ht hop hk') (stagesOk_of_le ht (by omega)) hdata
    ⟨hcontrol, hp.done_eq, herr⟩

/-! ### The capture -/

/-- An earlier acquisition's payload, Reading and TRUNC are discarded (R33, R150). -/
def State.discarded (s : State) : Prop :=
  s.pvalid = false ∧ s.payload = zeroPayload ∧ s.rvalid = false ∧ s.hum = 0#16 ∧ s.tmag = 0#15
    ∧ s.neg = false ∧ s.trunc = false

/-- The edge count from the second step of a capture on, at sub-position `b` of step `j` (R31). -/
def State.countOk (s : State) (j b : Nat) : Prop :=
  s.edgecnt.toNat ≤ s.maxe.toNat ∧ (j = 2 ∨ j = 3 → s.edgecnt = 0#6)
    ∧ (j = 5 → s.edgecnt.toNat < s.maxe.toNat)
    ∧ (j = 6 → (s.strategy = true ∨ b < 2) → s.edgecnt.toNat < s.maxe.toNat)

variable {j j' : Nat}

theorem State.Inv.discarded (h : s.Inv) (hj : s.seq.captureAt = some j) (h2 : 2 ≤ j) :
    s.discarded := by
  obtain ⟨hpay, hres, -, -, hcap⟩ := h.data
  obtain ⟨hpv, hrv, htr⟩ := hcap j hj h2
  obtain ⟨hhum, htmag, hneg⟩ := hres hrv
  exact ⟨hpv, hpay hpv, hrv, hhum, htmag, hneg, htr⟩

theorem State.Inv.countOk (h : s.Inv) (hj : s.seq.captureAt = some j) (h2 : 2 ≤ j) :
    s.countOk j s.sub := by
  have hedges := h.edges.2
  rw [hj] at hedges
  obtain ⟨hle, hrest⟩ := hedges
  exact ⟨hle h2, hrest⟩

/-- The captures: CAPT's own steps, and ACQ's 15 to 22 (R200). -/
theorem captureAt_eq_some {q : Seq} (h : q.captureAt = some j) :
    ∃ b, q = .run .capt j b ∨ (q = .run .acq (j + 14) b ∧ 1 ≤ j ∧ j ≤ 8) := by
  unfold Seq.captureAt at h
  split at h
  · cases h
    exact ⟨_, .inl rfl⟩
  · rename_i k b
    split at h <;> cases h
    exact ⟨b, .inr ⟨by rw [Nat.sub_add_cancel (by omega)], by omega, by omega⟩⟩
  · cases h

@[simp] theorem captureAt_within (b : Nat) (q : Seq) : (q.within b).captureAt = q.captureAt := by
  cases q with
  | idle => rfl
  | run op => cases op <;> rfl

theorem captureAt_advance {q : Seq} (h : q.captureAt = some j) (h7 : j ≤ 7) :
    q.advance.captureAt = some (j + 1) := by
  obtain ⟨b, rfl | ⟨rfl, h1, -⟩⟩ := captureAt_eq_some h
  · rfl
  · simp [Seq.captureAt]
    omega

theorem stagesOk_of_captureAt (h : s.seq.captureAt = some j) : s.stagesOk := by
  obtain ⟨b, hs | ⟨hs, -, h8⟩⟩ := captureAt_eq_some h
  · simp [State.stagesOk, hs]
  · exact stagesOk_of_le hs (by omega)

/-- The sequencer's part of the invariant moves with SEQ inside a capture. -/
theorem State.sequencerOk.capturing (h : s.sequencerOk) (hj : s.seq.captureAt = some j)
    (hop : t.seq.op? = s.seq.op?) (hj' : t.seq.captureAt = some j') (h1 : 1 ≤ j') (h8 : j' ≤ 8)
    (hstatus : keepsStatus s t) : t.sequencerOk ∧ t.err = .none := by
  obtain ⟨b, hs | ⟨hs, -⟩⟩ := captureAt_eq_some hj <;>
    obtain ⟨b', ht | ⟨ht, -⟩⟩ := captureAt_eq_some hj' <;> simp [hs, ht, Seq.op?] at hop
  · have hseq := h.move hs ht h1 h8 hstatus
    exact ⟨hseq, hseq.err_none ht⟩
  · have hseq := h.move hs ht (by omega) (by simp only [Op.lastStep]; omega) hstatus
    exact ⟨hseq, hseq.err_none ht⟩

/-- A state inside a capture, its data discarded and its edge count in range, has the invariant. -/
theorem State.Inv.capturing (h : s.Inv) (hj : s.seq.captureAt = some j)
    (hop : t.seq.op? = s.seq.op?) (hj' : t.seq.captureAt = some j') (h1 : 1 ≤ j') (h8 : j' ≤ 8)
    (hstatus : keepsStatus s t) (hdisc : t.discarded) (hcount : t.countOk j' t.sub) : t.Inv := by
  obtain ⟨hseq, herr⟩ := h.sequencer.capturing hj hop hj' h1 h8 hstatus
  obtain ⟨⟨-, -, -, -, -, -, -, -, -, hmax, hcfg, -⟩, -⟩ := hstatus
  obtain ⟨hpv, hpay, hrv, hhum, htmag, hneg, htr⟩ := hdisc
  have hle := hmax ▸ h.maxe_le hj
  refine ⟨hcfg ▸ h.indices, hseq, ⟨hcount.1.trans hle, ?_⟩, ?_,
    reportsOk_of_running herr (by simp [htr]), stagesOk_of_captureAt hj'⟩
  · rw [hj']
    exact ⟨fun _ => hcount.1, hcount.2⟩
  · exact ⟨fun _ => hpay, fun _ => ⟨hhum, htmag, hneg⟩, by simp [hpv], by simp [hrv],
      fun _ _ _ => ⟨hpv, hrv, htr⟩⟩

/-- The next step of a capture. -/
theorem State.Inv.captureAdvance (h : s.Inv) (hj : s.seq.captureAt = some j) (h7 : j ≤ 7)
    (ht : t.seq = s.seq.advance) (hdisc : t.discarded) (hcount : t.countOk (j + 1) 0)
    (hstatus : keepsStatus s t := by simp [keepsStatus, sameControl]) : t.Inv := by
  have hsub : t.sub = 0 := by
    unfold State.sub
    rw [ht]
    cases s.seq <;> rfl
  exact h.capturing hj (by simp [ht]) (ht ▸ captureAt_advance hj h7) (by omega) (by omega) hstatus hdisc
    (hsub ▸ hcount)

/-- Further inside the body of the loop (R151, R152). -/
theorem State.Inv.captureWithin (h : s.Inv) (hj : s.seq.captureAt = some 6) {b : Nat}
    (ht : t.seq = s.seq.within b) (hdisc : t.discarded) (hcount : t.countOk 6 b)
    (hstatus : keepsStatus s t := by simp [keepsStatus, sameControl]) : t.Inv := by
  have hsub : t.sub = b := by
    obtain ⟨c, hs | ⟨hs, -⟩⟩ := captureAt_eq_some hj <;> rw [hs] at ht <;>
      exact State.sub_of_run ht
  exact h.capturing hj (by simp [ht]) (by simpa [ht] using hj) (by decide) (by decide) hstatus hdisc
    (hsub ▸ hcount)

/-- Where no edge can follow before the next test of the count, reaching MAXE is in range. -/
theorem countOk_of_le (hle : s.edgecnt.toNat ≤ s.maxe.toNat) (hj : j = 4 ∨ 7 ≤ j) (b : Nat) :
    s.countOk j b :=
  ⟨hle, by omega, by omega, by omega⟩

theorem countOk_of_lt (hlt : s.edgecnt.toNat < s.maxe.toNat) (hj : 4 ≤ j) (b : Nat) :
    s.countOk j b :=
  ⟨hlt.le, by omega, fun _ => hlt, fun _ _ => hlt⟩

/-- The loop is entered with no edge recorded. -/
theorem countOk_entry (hle : s.edgecnt.toNat ≤ s.maxe.toNat) (hzero : s.edgecnt = 0#6) (b : Nat) :
    s.countOk 3 b :=
  ⟨hle, fun _ => hzero, by omega, by omega⟩

/-- The polling body has recorded its edge, or found none. -/
theorem countOk_polled (hle : s.edgecnt.toNat ≤ s.maxe.toNat) (hs : s.strategy = false) :
    s.countOk 6 2 :=
  ⟨hle, by omega, by omega, by simp [hs]⟩

/-- The `Wait` between two samples (R150 step 7). -/
theorem State.Inv.capturePause (h : s.Inv) (hj : s.seq.captureAt = some 7) (d : Nat) :
    (s.afterWait d).Inv := by
  have hp : PortStep (fun _ => True) s (s.afterWait d) := .wait d trivial
  obtain ⟨⟨-, hcontrol, herr⟩, -⟩ := hp.keepsWork
  have hstatus : keepsStatus s (s.afterWait d) := ⟨hcontrol, hp.done_eq, herr⟩
  have hdisc : (s.afterWait d).discarded := h.discarded hj (by decide)
  have hle : (s.afterWait d).edgecnt.toNat ≤ (s.afterWait d).maxe.toNat :=
    (h.countOk hj (by decide)).1
  obtain hq | hq | hq := hp.seq_cases
  · exact h.capturing hj (by rw [hq]) (by rwa [hq]) (by decide) (by decide) hstatus hdisc
      (countOk_of_le hle (by decide) _)
  · exact h.captureAdvance hj (by decide) hq hdisc (countOk_of_le hle (by decide) _) hstatus
  · exact h.capturing hj (by simp [hq]) (by simpa [hq] using hj) (by decide) (by decide) hstatus hdisc
      (countOk_of_le hle (by decide) _)

/-- Every step of a capture keeps the invariant. -/
theorem CaptureStep.inv {p : Pin} {n : BitVec 6} {counted : State → State} (h : s.Inv)
    (hj : s.seq.captureAt = some j) (hn : n = s.maxe)
    (hcounted : s.edgecnt = n → (counted s).Inv) (hc : CaptureStep p n counted s j t) : t.Inv := by
  have hdisc : 2 ≤ j → s.discarded := h.discarded hj
  have hcount : 2 ≤ j → s.countOk j s.sub := h.countOk hj
  cases hc with
  | discard =>
    exact h.captureAdvance hj (by decide) rfl ⟨rfl, rfl, rfl, rfl, rfl, rfl, rfl⟩
      (by simp [State.countOk, beginCapture]) (by simp [keepsStatus, sameControl, beginCapture])
  | first =>
    obtain ⟨hle, hzero, -⟩ := hcount (by decide)
    exact h.captureAdvance hj (by decide) rfl (hdisc (by decide))
      (countOk_entry hle (hzero (.inl rfl)) _)
  | enter =>
    obtain ⟨hle, -⟩ := hcount (by decide)
    exact h.captureAdvance hj (by decide) rfl (hdisc (by decide))
      (countOk_of_le hle (by decide) _)
  | reached he => exact hcounted he
  | short he =>
    obtain ⟨hle, -⟩ := hcount (by decide)
    have hlt := lt_of_le_of_ne hle fun e => he (hn ▸ BitVec.eq_of_toNat_eq e)
    exact h.captureAdvance hj (by decide) rfl (hdisc (by decide))
      (countOk_of_lt hlt (by decide) _)
  | late =>
    obtain ⟨hpv, hpay, hrv, hhum, htmag, hneg, -⟩ := hdisc (by decide)
    obtain ⟨-, -, hlt, -⟩ := hcount (by decide)
    exact inv_of_idle rfl h.indices h.edges.1
      ⟨fun _ => hpay, fun _ => ⟨hhum, htmag, hneg⟩, by simp [hpv], by simp [hrv], nofun⟩
      ⟨fun _ => (hlt rfl).trans_le (h.maxe_le hj), fun _ => rfl, nofun, fun _ => rfl, nofun, nofun,
        nofun, nofun⟩
  | inTime =>
    obtain ⟨-, -, hlt, -⟩ := hcount (by decide)
    exact h.captureAdvance hj (by decide) rfl (hdisc (by decide))
      (countOk_of_lt (hlt rfl) (by decide) _)
  | hangs => exact h
  | sample idx hb =>
    obtain ⟨-, -, -, hlt⟩ := hcount (by decide)
    exact h.captureWithin hj rfl (hdisc (by decide))
      (countOk_of_lt (hlt rfl (.inr (by omega))) (by decide) _)
  | clearFlag hs =>
    obtain ⟨-, -, -, hlt⟩ := hcount (by decide)
    exact h.captureWithin hj rfl (hdisc (by decide))
      (countOk_of_lt (hlt rfl (.inl hs)) (by decide) _)
  | noEdge hs =>
    obtain ⟨hle, -⟩ := hcount (by decide)
    exact h.captureWithin hj rfl (hdisc (by decide))
      (countOk_polled hle hs)
  | edge hs hb hc =>
    obtain ⟨-, -, -, hlt⟩ := hcount (by decide)
    have hle : (s.edgecnt + 1#6).toNat ≤ s.maxe.toNat := by
      rw [edgecnt_add_one hc]
      exact hlt rfl (.inr hb)
    exact h.captureWithin hj rfl (hdisc (by decide))
      (countOk_polled hle hs)
  | flagged hs hc =>
    obtain ⟨-, -, -, hlt⟩ := hcount (by decide)
    have hle : (s.edgecnt + 1#6).toNat ≤ s.maxe.toNat := by
      rw [edgecnt_add_one hc]
      exact hlt rfl (.inl hs)
    exact h.captureAdvance hj (by decide) rfl (hdisc (by decide))
      (countOk_of_le hle (by decide) _)
  | sampled | noPause =>
    obtain ⟨hle, -⟩ := hcount (by decide)
    exact h.captureAdvance hj (by decide) rfl (hdisc (by decide))
      (countOk_of_le hle (by decide) _)
  | pause d => exact h.capturePause hj d

/-- The loop goes back to its step 4, and ACQ to its micro-step 18 (R150, R200). -/
theorem State.Inv.captureLoop (h : s.Inv) (hj : s.seq.captureAt = some 8)
    (hk : (s.seq.goto k).captureAt = some 4) : (s.goto k).Inv :=
  h.capturing hj (by simp) hk (by decide) (by decide) (by simp [keepsStatus, sameControl])
    (h.discarded hj (by decide)) (countOk_of_le (h.countOk hj (by decide)).1 (by decide) _)

/-! ### The decoder and the validator -/

/-- DEC with too few edges, the decode stage of ACQ too: nothing is valid (R174). -/
theorem State.Inv.insufficientEdges (h : s.Inv) (hcnt : s.edgecnt.toNat < 42) :
    (s.clearPayload.clearResult.raiseErr .insufficientEdges).Inv := by
  obtain ⟨htrunc, -⟩ := h.reports
  exact inv_of_idle rfl h.indices h.edges.1
    ⟨fun _ => rfl, fun _ => ⟨rfl, rfl, rfl⟩, nofun, nofun, nofun⟩
    ⟨htrunc, fun _ => rfl, nofun, nofun, fun _ => ⟨hcnt, rfl⟩, nofun, nofun, nofun⟩

/-- The decoded payload in place, SEQ outside the capture (R170). -/
theorem State.Inv.decoded (h : s.Inv) (hs : s.seq = .run op k b) (hcap : s.seq.captureAt = none)
    (hcnt : ¬s.edgecnt.toNat < 42) :
    State.Inv { s.clearResult with pvalid := true, payload := frameDecode s.cfg.threshUs s.ts } := by
  obtain ⟨htrunc, -⟩ := h.reports
  have h42 : s.edgecnt = 42#6 := BitVec.eq_of_toNat_eq (le_antisymm h.edges.1 (by simpa using hcnt))
  refine ⟨h.indices, h.sequencer, h.edges, ?_,
    reportsOk_of_running (h.sequencer.err_none hs) htrunc, ?_⟩
  · exact ⟨nofun, fun _ => ⟨rfl, rfl, rfl⟩, fun _ => ⟨h42, rfl⟩, nofun, by simp [hcap]⟩
  · unfold State.stagesOk
    split
    · exact h42
    · rfl
    · trivial

/-- ACQ at its later stages, with what the earlier ones delivered (R200). -/
theorem State.Inv.acqStage (h : s.Inv) (hs : s.seq = .run .acq k b) (hk' : 23 ≤ k' ∧ k' ≤ 24)
    (hstages : (s.goto k').stagesOk) : (s.goto k').Inv := by
  have ht : (s.goto k').seq = .run .acq k' 0 := by simp [hs]
  refine h.move hs ht (by omega) hk'.2 ?_ hstages (by simp [sameData])
    (by simp [keepsStatus, sameControl])
  intro j hj
  rw [ht, Seq.captureAt, if_neg (by omega)] at hj
  cases hj

theorem State.Inv.decodeStage (h : s.Inv) (hs : s.seq = .run .acq k b) (hcnt : s.edgecnt = 42#6) :
    (s.goto 23).Inv :=
  h.acqStage hs (by decide) (by simpa [State.stagesOk, hs] using hcnt)

theorem State.Inv.finalizeStage (h : s.Inv) (hs : s.seq = .run .acq k b) (hp : s.pvalid = true) :
    (s.goto 24).Inv :=
  h.acqStage hs (by decide) (by simpa [State.stagesOk, hs] using hp)

/-- ACQ captures 42 edges (R36). -/
theorem State.Inv.acq_maxe (h : s.Inv) (hs : s.seq = .run .acq k b) : s.maxe = 42#6 := by
  have hseq := h.sequencer
  simp only [State.sequencerOk, hs] at hseq
  obtain ⟨-, -, -, -, -, -, -, -, hacq⟩ := hseq
  exact hacq trivial

theorem finalize_eq_none {v : Vector Byte 5} {mode : Bool} (h : finalize v mode = none) :
    checksumOk v = false := by
  unfold finalize at h
  split at h
  · cases h
  · simpa using ‹¬checksumOk v = true›

/-- FIN, the finalize stage of ACQ too: a failure leaves no Reading, a success that of the payload (R185,
R186, R190). -/
theorem State.Inv.finalizeBody (h : s.Inv) (hs : s.seq = .run op k b)
    (hf : finalizeBody s = .next t) : t.Inv := by
  obtain ⟨hpay, -, hpv, -, -⟩ := h.data
  obtain ⟨htrunc, -⟩ := h.reports
  have herr := h.sequencer.err_none hs
  obtain ⟨hp, rfl⟩ | ⟨hp, hnone, rfl⟩ | ⟨r, hp, hsome, rfl⟩ := finalizeBody_cases hf
  · exact inv_of_idle rfl h.indices h.edges.1
      ⟨hpay, fun _ => ⟨rfl, rfl, rfl⟩, hpv, nofun, nofun⟩
      ⟨htrunc, fun _ => rfl, nofun, nofun, nofun, nofun, fun _ => ⟨hp, rfl⟩, nofun⟩
  · exact inv_of_idle rfl h.indices h.edges.1
      ⟨hpay, fun _ => ⟨rfl, rfl, rfl⟩, hpv, nofun, nofun⟩
      ⟨htrunc, fun _ => rfl, nofun, nofun, nofun, fun _ => ⟨hp, rfl, finalize_eq_none hnone⟩, nofun,
        nofun⟩
  · exact inv_of_idle rfl h.indices h.edges.1
      ⟨hpay, nofun, hpv, fun _ => ⟨hp, s.signmode, hsome⟩, nofun⟩
      (by simpa [State.reportsOk, herr] using htrunc)

end

/-! ### Every command -/

/-- Every command in flight keeps the invariant. -/
theorem body_inv {i : Instr} {k b : Nat} {s t : State} (h : s.Inv) (hs : s.seq = .run i.op k b)
    (hi : s.inFlight = some i) (hb : commandBody i k s = .next t) : t.Inv := by
  have hrun : s.seq ≠ .idle := by simp [hs]
  cases i with
  | pullup p =>
    obtain rfl | ⟨hk, hp⟩ := pullupStep_cases hrun hb
    · exact h.complete
    · exact h.port (op := .pullup) hs nofun hk (by decide) (by decide) hp
  | setdir p d =>
    obtain rfl | ⟨hk, hp⟩ := setdirStep_cases hrun hb
    · exact h.complete
    · exact h.port (op := .setdir) hs nofun hk (by decide) (by decide) hp
  | setlvl p l =>
    obtain rfl | ⟨hk, hp⟩ := setlvlStep_cases hrun hb
    · exact h.complete
    · exact h.port (op := .setlvl) hs nofun hk (by decide) (by decide) hp
  | rdlvl p =>
    obtain rfl | ⟨hk, hp⟩ | ⟨rfl, rfl⟩ := rdlvlStep_cases hrun hb
    · exact h.complete
    · exact h.port (op := .rdlvl) hs nofun hk (by decide) (by decide) hp
    · have ht : State.seq (State.advance { s with level := pinBit s.tmp p }) = .run .rdlvl 3 0 := by
        simp [hs, Instr.op]
      exact h.move hs ht (by decide) le_rfl (captureAt_le_one ht nofun (by decide))
        (stagesOk_of_le ht (by decide)) (by simp [sameData]) (by simp [keepsStatus, sameControl])
  | init p =>
    obtain rfl | ⟨hk, hp⟩ := initStep_cases hrun hb
    · exact h.complete
    · exact h.port (op := .init) hs nofun hk (by decide) (by decide) hp
  | capt p n =>
    have hj : s.seq.captureAt = some k := by rw [hs]; rfl
    obtain ⟨rfl, rfl⟩ | hc := captStep_cases hrun hb
    · exact h.captureLoop hj (by rw [hs]; rfl)
    · have hn : n = s.maxe := by
        rw [State.inFlight_of_run hs] at hi
        cases hi
        rfl
      exact hc.inv h hj hn fun _ => h.complete
  | dec =>
    obtain ⟨hcnt, rfl⟩ | ⟨hcnt, rfl⟩ := decodeBody_cases (decStep_next hrun hb)
    · exact h.insufficientEdges hcnt
    · exact (h.decoded hs (by rw [hs]; rfl) hcnt).complete
  | fin => exact h.finalizeBody hs (finStep_next hrun hb)
  | acq p =>
    have hmax := h.acq_maxe hs
    obtain ⟨hk, hp⟩ | ⟨j, rfl, h1, h7, hc⟩ | ⟨rfl, rfl⟩ | ⟨rfl, hd⟩ | ⟨-, hf⟩ :=
      acqStep_cases hrun hb
    · exact h.port (op := .acq) hs nofun hk (by decide) (by decide) hp
    · have hj : s.seq.captureAt = some j := by
        simp [hs, Instr.op, Seq.captureAt]
        omega
      exact hc.inv h hj hmax.symm fun hcnt => h.decodeStage hs hcnt
    · exact h.captureLoop (by rw [hs]; rfl) (by rw [hs]; rfl)
    · obtain ⟨hcnt, rfl⟩ | ⟨hcnt, rfl⟩ := decodeBody_cases hd
      · exact h.insufficientEdges hcnt
      · exact (h.decoded hs (by rw [hs]; rfl) hcnt).finalizeStage hs rfl
    · exact h.finalizeBody hs hf

theorem resetEvent_inv {s : State} (h : s.Inv) : (resetEvent s).Inv :=
  inv_of_idle rfl h.indices reset_inv.edges.1
    ⟨fun _ => rfl, fun _ => ⟨rfl, rfl, rfl⟩, nofun, nofun, nofun⟩ reset_inv.reports

/-- Settles O51: every move but the ENGINE's leaves what the invariant speaks of, accepts a command, or
resets; the ENGINE makes one step of the command in flight. -/
theorem stepKeepsInvariant : Obligations.StepKeepsInvariant := by
  unfold Obligations.StepKeepsInvariant
  intro s t h hstep
  obtain ⟨m, moves, -, hmove⟩ := step_moveStep hstep
  have h := h.withScript moves
  cases hmove with
  | engine hi hexec =>
    obtain ⟨k, b, hs⟩ := seq_of_inFlight hi
    rw [exec_inFlight hs hi] at hexec
    exact body_inv h hs hi hexec
  | accepted w hidle => exact acceptWord_inv w hidle h
  | stored strategy signmode timeout hidle =>
    exact inv_of_idle hidle h.indices h.edges.1 h.data h.reports
  | idle => exact h
  | rejected | looked | outside =>
    exact ⟨h.indices, h.sequencer, h.edges, h.data, h.reports, h.stages⟩
  | reset => exact resetEvent_inv h

end Sys2Proof.Machine
end

section
/-! PROOF. The host window: what a write stores, what stands at each offset, and the fields of the words
(R21 to R30, R44, R105, R210). -/

namespace Sys2Proof.Machine

/-! ### Writes of offsets other than CMD's -/

theorem step_hostWrite {s : State} {off : BitVec 8} {v : Word} {rest : List Move}
    (h : s.env.script = .write off v :: rest) (h0 : off ≠ 0x00#8) :
    step s = .next (hostWrite off v (s.withScript rest)) := by
  simp only [step, fetch_scripted h, perform, if_neg h0]

theorem hostWrite_config (v : Word) (s : State) :
    hostWrite 0x02#8 v s =
      if s.seq = .idle then { s with strategy := v.getLsbD 0, signmode := v.getLsbD 1 }
      else { s with rej := true } := by
  split
  · simp [hostWrite, (State.busy_eq_false_iff s).mpr ‹_›]
  · simp [hostWrite, (State.busy_iff s).mpr ‹_›, State.reject]

theorem hostWrite_timeout (v : Word) (s : State) :
    hostWrite 0x03#8 v s =
      if s.seq = .idle then { s with timeout := v } else { s with rej := true } := by
  split
  · simp [hostWrite, (State.busy_eq_false_iff s).mpr ‹_›]
  · simp [hostWrite, (State.busy_iff s).mpr ‹_›, State.reject]

theorem hostWrite_ignored {off : BitVec 8} (h2 : off ≠ 0x02#8) (h3 : off ≠ 0x03#8) (v : Word)
    (s : State) : hostWrite off v s = s := by
  unfold hostWrite
  split
  · exact absurd (BitVec.eq_of_toNat_eq ‹_›) h2
  · exact absurd (BitVec.eq_of_toNat_eq ‹_›) h3
  · rfl

/-- Settles O7: `hostWrite` at the offsets of CONFIG and TIMEOUT. -/
theorem configAndTimeoutWrites : Obligations.ConfigAndTimeoutWrites := by
  unfold Obligations.ConfigAndTimeoutWrites
  intro s v rest
  refine ⟨fun h => ?_, fun h => ?_⟩
  · rw [step_hostWrite h (by decide), hostWrite_config]
    rfl
  · rw [step_hostWrite h (by decide), hostWrite_timeout]
    rfl

/-! ### Reads -/

/-- Offsets 0x07 to 0x3F are reserved (R44). -/
theorem hostWord_reserved {off : BitVec 8} (h7 : 0x07 ≤ off.toNat) (h3f : off.toNat ≤ 0x3F) (s : State) :
    s.hostWord off = 0#32 := by
  unfold State.hostWord
  split
  case h_8 => rw [if_pos (by omega)]
  all_goals omega

/-- From offset 0x40 on stand the timestamps, two words each, and nothing after the last (R21, R44, R105). -/
theorem hostWord_timestamps {off : BitVec 8} (h : 0x40 ≤ off.toNat) (s : State) :
    s.hostWord off =
      ((s.ts[(off.toNat - 0x40) / 2]?).map fun t =>
        if off.toNat % 2 = 0 then t.sec else (t.nsec.extractLsb' 0 30).setWidth 32).getD 0#32 := by
  unfold State.hostWord
  split
  case h_8 =>
    rw [if_neg (by omega)]
    cases s.ts[(off.toNat - 0x40) / 2]? <;> rfl
  all_goals omega

/-- Settles O8: the reserved ranges lie before and after the timestamps, and only three offsets are stored. -/
theorem reservedAndReadOnlyOffsets : Obligations.ReservedAndReadOnlyOffsets := by
  unfold Obligations.ReservedAndReadOnlyOffsets
  refine ⟨fun s off h => ?_, fun s off v rest hm h0 h2 h3 => ?_⟩
  · obtain ⟨h7, h3f⟩ | h94 := h
    · exact hostWord_reserved h7 h3f s
    · rw [hostWord_timestamps (by omega), Vector.getElem?_eq_none (by omega)]
      rfl
  · rw [step_hostWrite hm h0, hostWrite_ignored h2 h3]

/-- The bits of a timestamp word above 29 read as 0 (R105). -/
theorem extract_nsec (x : Word) : (x.extractLsb' 0 30).setWidth 32 = x &&& 0x3FFFFFFF#32 := by
  ext j hj
  interval_cases j <;> simp

/-- Settles O10: the seven registers and the timestamps at their offsets. -/
theorem hostWindowMap : Obligations.HostWindowMap := by
  unfold Obligations.HostWindowMap
  intro s
  refine ⟨rfl, rfl, rfl, rfl, rfl, rfl, rfl, fun i => ?_⟩
  have hi := i.isLt
  have hsec : (BitVec.ofNat 8 (0x40 + 2 * i.val)).toNat = 0x40 + 2 * i.val := by
    rw [BitVec.toNat_ofNat]
    omega
  have hnsec : (BitVec.ofNat 8 (0x41 + 2 * i.val)).toNat = 0x41 + 2 * i.val := by
    rw [BitVec.toNat_ofNat]
    omega
  constructor
  · rw [hostWord_timestamps (by omega), hsec, show (0x40 + 2 * i.val - 0x40) / 2 = i.val by omega,
      Vector.getElem?_eq_getElem hi, Option.map_some, if_pos (by omega)]
    rfl
  · rw [hostWord_timestamps (by omega), hnsec, show (0x41 + 2 * i.val - 0x40) / 2 = i.val by omega,
      Vector.getElem?_eq_getElem hi, Option.map_some, if_neg (by omega), extract_nsec]
    rfl

/-! ### Fields -/

/-- A flag stands at its bit alone. -/
@[simp] theorem getElem_flagAt (b : Bool) (i j : Nat) (hj : j < 32) :
    (flagAt b i)[j] = (decide (j = i) && b) := by
  simp only [flagAt, BitVec.getElem_shiftLeft, BitVec.getElem_setWidth, BitVec.getLsbD_ofBool]
  by_cases h : j = i
  · simp [h]
  · by_cases hlt : j < i
    · simp [hlt, h]
    · simp [h, show ¬j - i = 0 by omega]

/-- The flags of STATUS stand below the error code and the edge count (R23). -/
theorem statusWord_flags (s : State) {j : Nat} (hj : j < 8) :
    s.statusWord.getLsbD j =
      (decide (j = 0) && s.busy || decide (j = 1) && s.done || decide (j = 2) && s.fatal
        || decide (j = 3) && s.rej || decide (j = 4) && s.trunc || decide (j = 5) && s.pvalid
        || decide (j = 6) && s.rvalid || decide (j = 7) && s.level) := by
  simp [State.statusWord, hj, show j < 16 by omega, show j < 32 by omega]

/-- Above the flags of STATUS stand the error code and, from bit 16 on, the edge count (R23). -/
theorem statusWord_fields (s : State) {j : Nat} (h8 : 8 ≤ j) (hj : j < 32) :
    s.statusWord.getLsbD j =
      (s.err.code.getLsbD (j - 8) || !decide (j < 16) && s.edgecnt.getLsbD (j - 16)) := by
  have hflag : ∀ i < 8, j ≠ i := fun i hi => by omega
  simp [State.statusWord, hflag, hj, show ¬j < 8 by omega]

/-- The error code in bits 11:8, the edge count in 21:16, and zeros between and above (R23, R210). -/
theorem statusWord_extract (s : State) :
    s.statusWord.extractLsb' 8 4 = s.err.code ∧ s.statusWord.extractLsb' 12 4 = 0#4
      ∧ s.statusWord.extractLsb' 16 6 = s.edgecnt ∧ s.statusWord.extractLsb' 22 10 = 0#10 := by
  have hfield : ∀ b n j : Nat, 8 ≤ b → b + n ≤ 32 → j < n →
      (s.statusWord.extractLsb' b n).getLsbD j =
        (s.err.code.getLsbD (b + j - 8) || !decide (b + j < 16) && s.edgecnt.getLsbD (b + j - 16)) := by
    intro b n j h8 hb hj
    rw [BitVec.getLsbD_extractLsb', statusWord_fields s (by omega) (by omega)]
    simp [hj]
  refine ⟨?_, ?_, ?_, ?_⟩ <;> apply BitVec.eq_of_getLsbD_eq <;> intro j hj <;>
    rw [hfield _ _ j (by decide) (by decide) hj]
  · simp [show 8 + j < 16 by omega]
  · simp [BitVec.getLsbD_of_ge s.err.code (12 + j - 8) (by omega), show 12 + j < 16 by omega]
  · simp [BitVec.getLsbD_of_ge s.err.code (16 + j - 8) (by omega)]
  · simp [BitVec.getLsbD_of_ge s.err.code (22 + j - 8) (by omega),
      BitVec.getLsbD_of_ge s.edgecnt (22 + j - 16) (by omega)]

/-- The two flags of CONFIG and its zeros (R26). -/
theorem configWord_extract (s : State) :
    s.configWord.getLsbD 0 = s.strategy ∧ s.configWord.getLsbD 1 = s.signmode
      ∧ s.configWord.extractLsb' 2 30 = 0#30 := by
  have hbit : ∀ j < 32, s.configWord.getLsbD j =
      (decide (j = 0) && s.strategy || decide (j = 1) && s.signmode) := by
    intro j hj
    simp [State.configWord, hj]
  refine ⟨by rw [hbit 0 (by decide)]; simp, by rw [hbit 1 (by decide)]; simp, ?_⟩
  apply BitVec.eq_of_getLsbD_eq
  intro j hj
  rw [BitVec.getLsbD_extractLsb', hbit _ (by omega)]
  simp [show 2 + j ≠ 1 by omega]

/-- The four bytes of PAYLOAD0 (R28). -/
theorem payload0Word_byte (s : State) (i : Fin 4) :
    s.payload0Word.extractLsb' (8 * i.val) 8 = s.payload[i.val] := by
  unfold State.payload0Word
  match i with
  | 0 => exact BitVec.extractLsb'_append_eq_right
  | 1 =>
    exact (BitVec.extractLsb'_append_eq_of_le (by decide)).trans BitVec.extractLsb'_append_eq_right
  | 2 =>
    exact ((BitVec.extractLsb'_append_eq_of_le (by decide)).trans
      (BitVec.extractLsb'_append_eq_of_le (by decide))).trans BitVec.extractLsb'_append_eq_right
  | 3 =>
    exact ((BitVec.extractLsb'_append_eq_of_le (by decide)).trans
      (BitVec.extractLsb'_append_eq_of_le (by decide))).trans BitVec.extractLsb'_append_eq_left

/-- The byte of PAYLOAD1 and its zeros (R28). -/
theorem payload1Word_extract (s : State) :
    s.payload1Word.extractLsb' 0 8 = s.payload[4] ∧ s.payload1Word.extractLsb' 8 24 = 0#24 := by
  constructor <;> apply BitVec.eq_of_getLsbD_eq <;> intro j hj
  · simp [State.payload1Word, hj, show j < 32 by omega]
  · simp [State.payload1Word]

/-- The three fields of RESULT (R29). -/
theorem resultWord_extract (s : State) :
    s.resultWord.extractLsb' 0 16 = s.hum ∧ s.resultWord.extractLsb' 16 15 = s.tmag
      ∧ s.resultWord.getLsbD 31 = s.neg := by
  unfold State.resultWord
  refine ⟨BitVec.extractLsb'_append_eq_right,
    (BitVec.extractLsb'_append_eq_of_le (by decide)).trans BitVec.extractLsb'_append_eq_right, ?_⟩
  rw [BitVec.getLsbD_append, if_neg (by decide), BitVec.getLsbD_append, if_neg (by decide)]
  simp

/-- Settles O11: each flag at its bit, each field at its place, the rest 0. -/
theorem hostWordFields : Obligations.HostWordFields := by
  unfold Obligations.HostWordFields
  intro s
  obtain ⟨herr, hlow, hcnt, hhigh⟩ := statusWord_extract s
  obtain ⟨hstr, hsgn, hcfg⟩ := configWord_extract s
  obtain ⟨hpay, hpay0⟩ := payload1Word_extract s
  refine ⟨?_, ?_, ?_, ?_, ?_, ?_, ?_, ?_, ?_, hlow, hcnt, hhigh, hstr, hsgn, hcfg,
    payload0Word_byte s, hpay, hpay0, resultWord_extract s⟩
  · rw [statusWord_flags s (by decide)]
    simp [State.busy_iff]
  iterate 7
    · rw [statusWord_flags s (by decide)]
      simp
  · rw [herr]
    cases s.err <;> rfl

end Sys2Proof.Machine
end

section
/-! PROOF. The word of a command decodes to it, and an accepted command starts (R91 to R96). -/

namespace Sys2Proof.Machine

/-- The fields of every instruction's command word (R91 to R93). -/
theorem commandWord (i : Instr) : Laws.CommandWord.Statement i := by
  cases i with
  | pullup p => exact Laws.CommandWord.pullup p
  | setdir p d => exact Laws.CommandWord.setdir p d
  | setlvl p l => exact Laws.CommandWord.setlvl p l
  | rdlvl p => exact Laws.CommandWord.rdlvl p
  | init p => exact Laws.CommandWord.init p
  | capt p n => exact Laws.CommandWord.capt p n
  | dec => exact Laws.CommandWord.dec
  | fin => exact Laws.CommandWord.fin
  | acq p => exact Laws.CommandWord.acq p

theorem capt_fields (p : Pin) (n : BitVec 6) :
    pinField (encode (.capt p n)) = p ∧ maxEdgesField (encode (.capt p n)) = n := by
  constructor <;> simp only [pinField, maxEdgesField, encode] <;> ext j hj <;> interval_cases j <;> simp

/-- The operands of an instruction stand in the fields of its word (R91, R106). -/
theorem instr_fields (i : Instr) :
    i.op.instr (pinField (encode i)) (argField (encode i)) (maxEdgesField (encode i)) = i := by
  cases i with
  | pullup p | rdlvl p | init p | acq p =>
    revert p
    decide
  | setdir p d =>
    cases d <;> revert p <;> decide
  | setlvl p l =>
    cases l <;> revert p <;> decide
  | capt p n =>
    obtain ⟨hp, hn⟩ := capt_fields p n
    simp only [Instr.op, Op.instr, hp, hn]
  | dec | fin => rfl

/-- The word of a well-formed command decodes to it (R95, R106). -/
theorem decode_encode {i : Instr} (h : i.wellFormed = true) : decode (encode i) = .ok i := by
  obtain ⟨hop, hmask⟩ := commandWord i
  have hcount : ¬(i.op = .capt ∧ Config.maxEdges < (maxEdgesField (encode i)).toNat) := by
    rintro ⟨hcapt, hlt⟩
    cases i with
    | capt p n =>
      rw [(capt_fields p n).2] at hlt
      simp only [Instr.wellFormed, decide_eq_true_eq] at h
      omega
    | pullup | setdir | setlvl | rdlvl | init | dec | fin | acq => cases hcapt
  unfold decode
  rw [hop, Op.ofCode_code]
  simp only [hmask, ne_eq, not_true_eq_false, if_false, if_neg hcount, instr_fields]

theorem code_eq_acq (op : Op) : op.code = 0x9#4 ↔ op = .acq := by cases op <;> decide

/-- Settles O14: the word decodes to the command, whose operands are then the latched ones. -/
theorem everyCommandStarts : Obligations.EveryCommandStarts := by
  unfold Obligations.EveryCommandStarts
  intro i s hwf hidle hfatal hsurf
  have hok : i.op.touchesSurface = true → s.env.surfaceOk = true := by
    intro ht
    apply hsurf <;> rintro rfl <;> cases ht
  obtain ⟨hop, -⟩ := commandWord i
  refine ⟨_, exec_idle i hidle, ?_, ?_⟩
  · rw [acceptWord_starts (decode_encode hwf) hfatal hok, hop]
    simp only [code_eq_acq]
    rw [← hop]
    rfl
  · rw [acceptWord_starts (decode_encode hwf) hfatal hok, State.inFlight_of_run rfl, hop]
    simp only [instr_acq_maxe, instr_fields]

end Sys2Proof.Machine
end

section
/-! PROOF. The micro-steps of RDLVL and the two bodies of the capture loop with the port ready (R124, R151,
R152). -/

namespace Sys2Proof.Machine

/-- Settles O22: one read, LEVEL, `complete`. -/
theorem rdlvlMicroSteps : Obligations.RdlvlMicroSteps := by
  unfold Obligations.RdlvlMicroSteps
  intro p s k b hr hi hs
  obtain ⟨-, -, -, hlev, -⟩ := indices_lt hr.2 p
  rw [exec_inFlight hs hi]
  refine ⟨?_, ?_, ?_⟩ <;> rintro rfl
  · exact regRead_ready hr hlev
  · simp [commandBody, rdlvlStep, State.advance, hs, pinBit]
  · rfl

section
variable {p : Pin} {n : BitVec 6} {i : Instr} {base b : Nat} {s : State}
  (h : (i = .capt p n ∧ base = 0) ∨ (i = .acq p ∧ n = 42#6 ∧ base = 14))
  (hi : s.inFlight = some i) (hs : s.seq = .run i.op (base + 6) b)
include h hi hs

theorem exec_pollBody (hstrategy : s.strategy = false) : exec i s = pollBody p s := by
  rw [exec_capture h (by decide) (by decide) hs hi]
  simp [captureStep, hstrategy]

theorem exec_flagBody (hstrategy : s.strategy = true) : exec i s = flagBody p s := by
  rw [exec_capture h (by decide) (by decide) hs hi]
  simp [captureStep, hstrategy]

end

/-- Settles O30: the three lines of the polling body. -/
theorem pollingBodySteps : Obligations.PollingBodySteps := by
  unfold Obligations.PollingBodySteps
  intro p n i base s b h hr hstrategy hi hs
  obtain ⟨-, -, -, hlev, -⟩ := indices_lt hr.2 p
  have hsub := State.sub_of_run hs
  rw [exec_pollBody h hi hs hstrategy]
  refine ⟨?_, ?_, ?_, ?_⟩
  · rintro rfl
    simp only [pollBody, hsub]
    rw [regRead_ok hlev hr.1]
    simp [State.within, hs]
  · rintro rfl hprev hbit hcnt
    have hedge : (s.prev && !pinBit s.tmp p) = true := by simp [hprev, pinBit, hbit]
    simp only [pollBody, hsub, hedge, if_true]
    rw [recordEdge_ok hcnt]
    simp [State.within, hs, ts_set_eq, State.observed]
  · rintro rfl hno
    have hedge : (s.prev && !pinBit s.tmp p) = false := by
      obtain hprev | hbit := hno
      · simp [hprev]
      · simp [pinBit, hbit]
    simp only [pollBody, hsub, hedge]
    simp [State.within, hs]
  · rintro rfl
    simp only [pollBody, hsub]
    simp [State.advance, hs, pinBit]

/-- Settles O31: one read, the clearing write before the timestamp where the flag is set. -/
theorem eventFlagBodySteps : Obligations.EventFlagBodySteps := by
  unfold Obligations.EventFlagBodySteps
  intro p n i base s b h hr hstrategy hi hs
  obtain ⟨-, -, -, -, heds, -⟩ := indices_lt hr.2 p
  have hsub := State.sub_of_run hs
  rw [exec_flagBody h hi hs hstrategy]
  refine ⟨?_, ?_, ?_, ?_⟩
  · rintro rfl
    simp only [flagBody, hsub]
    rw [regRead_ok heds hr.1]
    simp [State.within, hs]
  · rintro rfl hbit
    simp only [flagBody, hsub, pinBit, hbit, if_true]
    rw [regWrite_ok heds hr.1]
    simp [State.within, hs, oneHot]
  · rintro rfl hbit
    simp only [flagBody, hsub, pinBit, hbit]
    simp [State.advance, hs]
  · rintro rfl hcnt
    simp only [flagBody, hsub]
    rw [recordEdge_ok hcnt]
    simp [State.advance, hs, ts_set_eq, State.observed]

end Sys2Proof.Machine
end

section
/-! PROOF. What each command leaves unchanged (R43, R71, R125, R152, R200). -/

namespace Sys2Proof.Machine

/-! ### The surface -/

/-- Only the pull registers and the pull of pin `p` can differ. -/
def keepsOtherPulls (p : Pin) (g g' : Surface) : Prop :=
  g'.fsel = g.fsel ∧ g'.latch = g.latch ∧ g'.line = g.line ∧ g'.eds = g.eds
    ∧ ∀ q : Fin 32, q.val ≠ p.toNat → g'.pull[q] = g.pull[q]

/-- Only the function-select register of pin `p` can differ. -/
def keepsOtherFsel (p : Pin) (g g' : Surface) : Prop :=
  g'.latch = g.latch ∧ g'.line = g.line ∧ g'.eds = g.eds ∧ g'.pud = g.pud ∧ g'.pudclk = g.pudclk
    ∧ g'.pull = g.pull ∧ ∀ r : Fin 4, r.val ≠ p.toNat / 10 → g'.fsel[r] = g.fsel[r]

/-- Only the latch bit of pin `p` can differ. -/
def keepsOtherLatch (p : Pin) (g g' : Surface) : Prop :=
  g'.fsel = g.fsel ∧ g'.line = g.line ∧ g'.eds = g.eds ∧ g'.pud = g.pud ∧ g'.pudclk = g.pudclk
    ∧ g'.pull = g.pull ∧ ∀ j, j ≠ p.toNat → g'.latch.getLsbD j = g.latch.getLsbD j

/-- Only the event flag of pin `p` can differ. -/
def keepsOtherFlags (p : Pin) (g g' : Surface) : Prop :=
  g'.fsel = g.fsel ∧ g'.latch = g.latch ∧ g'.line = g.line ∧ g'.pud = g.pud ∧ g'.pudclk = g.pudclk
    ∧ g'.pull = g.pull ∧ ∀ j, j ≠ p.toNat → g'.eds.getLsbD j = g.eds.getLsbD j

/-- Only the pull registers and what belongs to pin `p` but its event flag can differ. -/
def keepsOtherPins (p : Pin) (g g' : Surface) : Prop :=
  g'.line = g.line ∧ g'.eds = g.eds ∧ (∀ q : Fin 32, q.val ≠ p.toNat → g'.pull[q] = g.pull[q])
    ∧ (∀ r : Fin 4, r.val ≠ p.toNat / 10 → g'.fsel[r] = g.fsel[r])
    ∧ ∀ j, j ≠ p.toNat → g'.latch.getLsbD j = g.latch.getLsbD j

/-- Clearing one bit leaves the others (R71). -/
theorem getLsbD_clear_oneHot (x : Word) {p : Pin} {j : Nat} (h : j ≠ p.toNat) :
    (x &&& ~~~oneHot p).getLsbD j = x.getLsbD j := by
  by_cases hj : j < 32
  · rw [BitVec.getLsbD_and, BitVec.getLsbD_not, getLsbD_oneHot]
    simp [h, hj]
  · simp [BitVec.getLsbD_of_ge _ j (Nat.le_of_not_lt hj)]

section
variable {c : Params} {p : Pin} {idx : Nat} {v : Word} (g : Surface)

/-- The write of a direction change (R71, R122). -/
theorem absorb_dirAccess (h : dirAccess c p (.write idx v)) :
    keepsOtherFsel p g (g.absorb c idx v) := by
  obtain rfl := h
  rw [absorb_fsel]
  refine ⟨rfl, rfl, rfl, rfl, rfl, rfl, fun r hr => ?_⟩
  simp [Vector.getElem_setIfInBounds_ne, Ne.symm hr]

variable (hd : c.indicesDistinct = true)
include hd

/-- The writes of the latch sequence: a clock word is one-hot or zero (R71, R121). -/
theorem absorb_pullAccess (h : pullAccess c p (.write idx v)) :
    keepsOtherPulls p g (g.absorb c idx v) := by
  obtain rfl | ⟨rfl, rfl | rfl⟩ := h
  · rw [absorb_pud hd]
    exact ⟨rfl, rfl, rfl, rfl, fun _ _ => rfl⟩
  · rw [absorb_pudclk hd]
    exact ⟨rfl, rfl, rfl, rfl, latchPull_oneHot g.pud p g.pull⟩
  · rw [absorb_pudclk hd, latchPull_zero]
    exact ⟨rfl, rfl, rfl, rfl, fun _ _ => rfl⟩

theorem absorb_levelAccess (h : levelAccess c p (.write idx v)) :
    keepsOtherLatch p g (g.absorb c idx v) := by
  obtain ⟨rfl | rfl, rfl⟩ := h
  · rw [absorb_set hd]
    exact ⟨rfl, rfl, rfl, rfl, rfl, rfl, fun j hj => by simp [getLsbD_oneHot, hj]⟩
  · rw [absorb_clr hd]
    exact ⟨rfl, rfl, rfl, rfl, rfl, rfl, fun _ => getLsbD_clear_oneHot g.latch⟩

theorem absorb_eds_oneHot (p : Pin) :
    keepsOtherFlags p g (g.absorb c c.idxEds (oneHot p)) := by
  rw [absorb_eds hd]
  exact ⟨rfl, rfl, rfl, rfl, rfl, rfl, fun _ => getLsbD_clear_oneHot g.eds⟩

theorem absorb_initAccess (h : initAccess c p (.write idx v)) :
    keepsOtherPins p g (g.absorb c idx v) := by
  obtain h | h | h := h
  · obtain ⟨hfsel, hlatch, hline, heds, hpull⟩ := absorb_pullAccess g hd h
    exact ⟨hline, heds, hpull, by simp [hfsel], by simp [hlatch]⟩
  · obtain ⟨hlatch, hline, heds, -, -, hpull, hfsel⟩ := absorb_dirAccess g h
    exact ⟨hline, heds, by simp [hpull], hfsel, by simp [hlatch]⟩
  · obtain ⟨hfsel, hline, heds, -, -, hpull, hlatch⟩ := absorb_levelAccess g hd h
    exact ⟨hline, heds, by simp [hpull], by simp [hfsel], hlatch⟩

end

/-! ### Accesses and waits -/

section
variable {A : Event → Prop} {s t : State} (h : PortStep A s t)
include h

/-- What holds of an unchanged surface and after every write among `A` holds of the step. -/
theorem PortStep.surf {R : Surface → Surface → Prop} (hrefl : R s.surf s.surf)
    (hwrite : ∀ idx v, A (.write idx v) → R s.surf (s.surf.absorb s.cfg idx v)) :
    R s.surf t.surf := by
  cases h with
  | write idx v h => exact hwrite idx v h
  | hangs | read | wait => exact hrefl

theorem PortStep.tmp_eq (hA : ∀ idx v, ¬A (.read idx v)) : t.tmp = s.tmp := by
  cases h with
  | read idx h => exact absurd h (hA _ _)
  | hangs | write | wait => rfl

theorem PortStep.tw_eq (hA : ∀ x, ¬A (.now x)) : t.tw = s.tw := by
  cases h with
  | wait d h => exact absurd h (hA _)
  | hangs | read | write => rfl

end

theorem PortStep.keepsOtherPins {p : Pin} {s t : State} (hd : s.cfg.indicesDistinct = true)
    (hp : PortStep (initAccess s.cfg p) s t) : keepsOtherPins p s.surf t.surf :=
  hp.surf ⟨rfl, rfl, fun _ _ => rfl, fun _ _ => rfl, fun _ _ => rfl⟩ fun _ _ => absorb_initAccess _ hd

/-! ### The pin controller and INIT -/

section
variable {p : Pin} {k : Nat} {s t : State} (hrun : s.seq ≠ .idle)
include hrun

theorem pullup_frame (hd : s.cfg.indicesDistinct = true) (h : pullupStep p k s = .next t) :
    keepsWork s t ∧ t.level = s.level ∧ t.tmp = s.tmp ∧ keepsOtherPulls p s.surf t.surf := by
  have hrefl : keepsOtherPulls p s.surf s.surf := ⟨rfl, rfl, rfl, rfl, fun _ _ => rfl⟩
  obtain rfl | ⟨-, hp⟩ := pullupStep_cases hrun h
  · exact ⟨keepsWork_complete s, rfl, rfl, hrefl⟩
  · exact ⟨hp.keepsWork, hp.level_eq, hp.tmp_eq fun _ _ => id,
      hp.surf hrefl fun _ _ => absorb_pullAccess _ hd⟩

theorem setdir_frame {d : Dir} (h : setdirStep p d k s = .next t) :
    keepsWork s t ∧ t.level = s.level ∧ t.tw = s.tw ∧ keepsOtherFsel p s.surf t.surf := by
  have hrefl : keepsOtherFsel p s.surf s.surf := ⟨rfl, rfl, rfl, rfl, rfl, rfl, fun _ _ => rfl⟩
  obtain rfl | ⟨-, hp⟩ := setdirStep_cases hrun h
  · exact ⟨keepsWork_complete s, rfl, rfl, hrefl⟩
  · exact ⟨hp.keepsWork, hp.level_eq, hp.tw_eq fun _ => id,
      hp.surf hrefl fun _ _ => absorb_dirAccess _⟩

theorem setlvl_frame {l : Level} (hd : s.cfg.indicesDistinct = true)
    (h : setlvlStep p l k s = .next t) :
    keepsWork s t ∧ t.level = s.level ∧ t.tw = s.tw ∧ t.tmp = s.tmp
      ∧ keepsOtherLatch p s.surf t.surf := by
  have hrefl : keepsOtherLatch p s.surf s.surf := ⟨rfl, rfl, rfl, rfl, rfl, rfl, fun _ _ => rfl⟩
  obtain rfl | ⟨-, hp⟩ := setlvlStep_cases hrun h
  · exact ⟨keepsWork_complete s, rfl, rfl, rfl, hrefl⟩
  · exact ⟨hp.keepsWork, hp.level_eq, hp.tw_eq fun _ => id, hp.tmp_eq fun _ _ => id,
      hp.surf hrefl fun _ _ => absorb_levelAccess _ hd⟩

theorem rdlvl_frame (h : rdlvlStep p k s = .next t) :
    keepsWork s t ∧ t.tw = s.tw ∧ t.surf = s.surf := by
  obtain rfl | ⟨-, hp⟩ | ⟨-, rfl⟩ := rdlvlStep_cases hrun h
  · exact ⟨keepsWork_complete s, rfl, rfl⟩
  · exact ⟨hp.keepsWork, hp.tw_eq fun _ => id,
      hp.surf (R := fun g g' => g' = g) rfl fun _ _ => False.elim⟩
  · exact ⟨by simp [keepsWork, keepsRegisters, sameData, sameControl, sameInputs], rfl, rfl⟩

theorem init_frame (hd : s.cfg.indicesDistinct = true) (h : initStep p k s = .next t) :
    keepsWork s t ∧ t.level = s.level ∧ keepsOtherPins p s.surf t.surf := by
  obtain rfl | ⟨-, hp⟩ := initStep_cases hrun h
  · exact ⟨keepsWork_complete s, rfl, rfl, rfl, fun _ _ => rfl, fun _ _ => rfl, fun _ _ => rfl⟩
  · exact ⟨hp.keepsWork, hp.level_eq, hp.keepsOtherPins hd⟩

end

/-- Settles O24: each command's accesses and the one or two surface registers they reach. -/
theorem pinCommandsFrame : Obligations.PinCommandsFrame := by
  unfold Obligations.PinCommandsFrame
  intro p i s t hpin hd hi h
  obtain ⟨k, b, hs⟩ := seq_of_inFlight hi
  rw [exec_inFlight hs hi] at h
  have hrun : s.seq ≠ .idle := by simp [hs]
  obtain rfl | ⟨d, rfl⟩ | ⟨l, rfl⟩ | rfl := hpin
  · obtain ⟨⟨⟨hdata, hcontrol, herr⟩, hinputs, hprev, ht0⟩, hlevel, htmp, hsurf⟩ :=
      pullup_frame hrun hd h
    exact ⟨hdata, hcontrol, hinputs, herr, hprev, ht0, fun _ => hlevel, fun hn => absurd rfl hn,
      fun _ => ⟨htmp, hsurf⟩, nofun, nofun, nofun⟩
  · obtain ⟨⟨⟨hdata, hcontrol, herr⟩, hinputs, hprev, ht0⟩, hlevel, htw, hsurf⟩ :=
      setdir_frame hrun h
    exact ⟨hdata, hcontrol, hinputs, herr, hprev, ht0, fun _ => hlevel, fun _ => htw, nofun,
      fun _ _ => hsurf, nofun, nofun⟩
  · obtain ⟨⟨⟨hdata, hcontrol, herr⟩, hinputs, hprev, ht0⟩, hlevel, htw, htmp, hsurf⟩ :=
      setlvl_frame hrun hd h
    exact ⟨hdata, hcontrol, hinputs, herr, hprev, ht0, fun _ => hlevel, fun _ => htw, nofun, nofun,
      fun _ _ => ⟨htmp, hsurf⟩, nofun⟩
  · obtain ⟨⟨⟨hdata, hcontrol, herr⟩, hinputs, hprev, ht0⟩, htw, hsurf⟩ := rdlvl_frame hrun h
    exact ⟨hdata, hcontrol, hinputs, herr, hprev, ht0, fun hn => absurd rfl hn, fun _ => htw, nofun,
      nofun, nofun, fun _ => hsurf⟩

/-- Settles O27: INIT's accesses are the latch sequence's, and level and direction changes. -/
theorem initFrame : Obligations.InitFrame := by
  unfold Obligations.InitFrame
  intro p s t hd hi h
  obtain ⟨k, b, hs⟩ := seq_of_inFlight hi
  rw [exec_inFlight hs hi] at h
  obtain ⟨⟨⟨hdata, hcontrol, herr⟩, hinputs, hprev, ht0⟩, hlevel, hsurf⟩ :=
    init_frame (by simp [hs]) hd h
  exact ⟨hdata, hcontrol, hinputs, herr, hlevel, hprev, ht0, hsurf⟩

/-! ### CAPT, DEC, FIN and ACQ -/

/-- LEVEL, every entry of TS but the next, and all of the surface but the event flag of pin `p` are the
same: what a capture leaves alone. -/
def captureKeeps (p : Pin) (s t : State) : Prop :=
  t.level = s.level ∧ (∀ i : Fin 42, i.val ≠ s.edgecnt.toNat → t.ts[i] = s.ts[i])
    ∧ keepsOtherFlags p s.surf t.surf

theorem captureKeeps_of_same {p : Pin} {s t : State} (hlevel : t.level = s.level) (hts : t.ts = s.ts)
    (hsurf : t.surf = s.surf) : captureKeeps p s t := by
  refine ⟨hlevel, fun _ _ => by rw [hts], ?_⟩
  rw [hsurf]
  exact ⟨rfl, rfl, rfl, rfl, rfl, rfl, fun _ _ => rfl⟩

theorem captureKeeps_of_record {p : Pin} {s t : State} (hc : s.edgecnt.toNat < 42)
    (hlevel : t.level = s.level) (hts : t.ts = s.ts.set s.edgecnt.toNat s.nowAnswer hc)
    (hsurf : t.surf = s.surf) : captureKeeps p s t := by
  refine ⟨hlevel, fun i hi => ?_, ?_⟩
  · simp [hts, Vector.getElem_set_ne, Ne.symm hi]
  · rw [hsurf]
    exact ⟨rfl, rfl, rfl, rfl, rfl, rfl, fun _ _ => rfl⟩

theorem CaptureStep.captureKeeps {p : Pin} {n : BitVec 6} {counted : State → State} {j : Nat}
    {s t : State} (hd : s.cfg.indicesDistinct = true) (hcounted : captureKeeps p s (counted s))
    (h : CaptureStep p n counted s j t) : captureKeeps p s t := by
  cases h with
  | reached => exact hcounted
  | clearFlag => exact ⟨rfl, fun _ _ => rfl, absorb_eds_oneHot _ hd p⟩
  | edge _ _ hc | flagged _ hc => exact captureKeeps_of_record hc rfl rfl rfl
  | discard | first | enter | short | late | inTime | hangs | sample | noEdge | sampled | noPause
  | pause => exact captureKeeps_of_same rfl rfl rfl

/-- Settles O34: the one write of a capture clears the pin's own event flag. -/
theorem captFrame : Obligations.CaptFrame := by
  unfold Obligations.CaptFrame
  intro p n s t hd hi h
  obtain ⟨hcontrol, hinputs, -⟩ := exec_keepsControl hi h
  obtain ⟨k, b, hs⟩ := seq_of_inFlight hi
  rw [exec_inFlight hs hi] at h
  have hkeeps : captureKeeps p s t := by
    obtain ⟨-, rfl⟩ | hc := captStep_cases (by simp [hs]) h
    · exact captureKeeps_of_same rfl rfl rfl
    · exact hc.captureKeeps hd (captureKeeps_of_same rfl rfl rfl)
  exact ⟨hcontrol, hinputs, hkeeps⟩

/-- Settles O45: DEC and FIN write their own results alone. -/
theorem decodeAndFinalizeFrame : Obligations.DecodeAndFinalizeFrame := by
  unfold Obligations.DecodeAndFinalizeFrame
  intro i s t hdf hi h
  obtain ⟨k, b, hs⟩ := seq_of_inFlight hi
  rw [exec_inFlight hs hi] at h
  have hrun : s.seq ≠ .idle := by simp [hs]
  obtain rfl | rfl := hdf
  · obtain ⟨⟨hcontrol, henv, hsurf, htrace, hts, hcnt, htrunc, hlevel, hprev, ht0, htw, htmp⟩, -⟩ :=
      decodeBody_complete_keeps (decStep_next hrun h)
    exact ⟨hcontrol, henv, hsurf, htrace, hts, hcnt, htrunc, hlevel, hprev, ht0, htw, htmp, nofun⟩
  · obtain ⟨⟨hcontrol, henv, hsurf, htrace, hts, hcnt, htrunc, hlevel, hprev, ht0, htw, htmp⟩, hpay,
      hpv, -⟩ := finalizeBody_keeps (finStep_next hrun h)
    exact ⟨hcontrol, henv, hsurf, htrace, hts, hcnt, htrunc, hlevel, hprev, ht0, htw, htmp,
      fun _ => ⟨hpay, hpv⟩⟩

/-- What ACQ leaves alone beside the control registers: what both INIT and a capture do. -/
def acqKeeps (p : Pin) (s t : State) : Prop :=
  t.level = s.level ∧ (∀ i : Fin 42, i.val ≠ s.edgecnt.toNat → t.ts[i] = s.ts[i])
    ∧ t.surf.line = s.surf.line
    ∧ (∀ q : Fin 32, q.val ≠ p.toNat → t.surf.pull[q] = s.surf.pull[q])
    ∧ (∀ r : Fin 4, r.val ≠ p.toNat / 10 → t.surf.fsel[r] = s.surf.fsel[r])
    ∧ (∀ j, j ≠ p.toNat → t.surf.latch.getLsbD j = s.surf.latch.getLsbD j)
    ∧ ∀ j, j ≠ p.toNat → t.surf.eds.getLsbD j = s.surf.eds.getLsbD j

theorem captureKeeps.acqKeeps {p : Pin} {s t : State} (h : captureKeeps p s t) : acqKeeps p s t := by
  obtain ⟨hlevel, hts, hfsel, hlatch, hline, -, -, hpull, heds⟩ := h
  exact ⟨hlevel, hts, hline, by simp [hpull], by simp [hfsel], by simp [hlatch], heds⟩

theorem keepsAllButResults.acqKeeps {s t : State} (p : Pin) (h : keepsAllButResults s t) :
    acqKeeps p s t := by
  obtain ⟨-, -, hsurf, -, hts, -, -, hlevel, -⟩ := h
  exact (captureKeeps_of_same hlevel hts hsurf).acqKeeps

theorem PortStep.acqKeeps {p : Pin} {s t : State} (hd : s.cfg.indicesDistinct = true)
    (hp : PortStep (initAccess s.cfg p) s t) : acqKeeps p s t := by
  obtain ⟨⟨⟨hts, -⟩, -⟩, -⟩ := hp.keepsWork
  obtain ⟨hline, heds, hpull, hfsel, hlatch⟩ := hp.keepsOtherPins hd
  exact ⟨hp.level_eq, by simp [hts], hline, hpull, hfsel, hlatch, by simp [heds]⟩

/-- Settles O49: ACQ writes what its four stages write. -/
theorem acqFrame : Obligations.AcqFrame := by
  unfold Obligations.AcqFrame
  intro p s t hd hi h
  obtain ⟨hcontrol, hinputs, -⟩ := exec_keepsControl hi h
  obtain ⟨k, b, hs⟩ := seq_of_inFlight hi
  rw [exec_inFlight hs hi] at h
  have hkeeps : acqKeeps p s t := by
    obtain ⟨-, hp⟩ | ⟨j, -, -, -, hc⟩ | ⟨-, rfl⟩ | ⟨-, hdec⟩ | ⟨-, hfin⟩ :=
      acqStep_cases (by simp [hs]) h
    · exact hp.acqKeeps hd
    · exact (hc.captureKeeps hd (captureKeeps_of_same rfl rfl rfl)).acqKeeps
    · exact (captureKeeps_of_same rfl rfl rfl).acqKeeps
    · exact (decodeBody_goto_keeps hdec).1.acqKeeps p
    · exact (finalizeBody_keeps hfin).1.acqKeeps p
  exact ⟨hcontrol, hinputs, hkeeps⟩

end Sys2Proof.Machine
end

section
/-! PROOF. The micro-steps of SETDIR and SETLVL with the port ready, and the whole runs of the pin commands
with only the ENGINE moving (R122 to R124, R247). -/

namespace Sys2Proof.Machine

/-! ### Micro-steps -/

/-- Settles O18: one read, one write of the pin's field, `complete`. -/
theorem setdirMicroSteps : Obligations.SetdirMicroSteps := by
  unfold Obligations.SetdirMicroSteps
  intro p d s k b hr hi hs
  rw [exec_inFlight hs hi]
  refine ⟨?_, ?_, ?_, ?_⟩
  · rintro rfl
    exact dirRead_ready p hr
  · rintro rfl rfl
    exact dirWrite_ready p .output hr
  · rintro rfl rfl
    exact dirWrite_ready p .input hr
  · rintro rfl
    rfl

/-- Settles O21: one write, to the set or to the clear register, `complete`. -/
theorem setlvlMicroSteps : Obligations.SetlvlMicroSteps := by
  unfold Obligations.SetlvlMicroSteps
  intro p l s k b hr hi hs
  rw [exec_inFlight hs hi]
  refine ⟨?_, ?_, ?_⟩
  · rintro rfl rfl
    exact levelWrite_ready p .high hr
  · rintro rfl rfl
    exact levelWrite_ready p .low hr
  · rintro rfl
    rfl

/-! ### Another master between the read and the write (R247) -/

@[simp] theorem afterRead_inFlight (s : State) (idx : Nat) :
    (s.afterRead idx).inFlight = s.inFlight := by
  simp [State.inFlight_eq_map, State.afterRead]

/-- A read leaves the port ready (R63). -/
theorem State.portReady.afterRead {s : State} (h : s.portReady) (idx : Nat) :
    (s.afterRead idx).portReady := by
  simpa [State.portReady, State.afterRead] using h

theorem step_engine_scripted {s : State} {i : Instr} {k b : Nat} {rest : List Move}
    (hm : s.env.script = .engine :: rest) (hs : s.seq = .run i.op k b) (hi : s.inFlight = some i) :
    step s = commandBody i k (s.withScript rest) := by
  obtain ⟨-, -, hengine⟩ := stepRunsTheCommand
  exact (hengine s rest i hm hi).trans (exec_inFlight (s := s.withScript rest) hs hi)

/-- Outside the latch sequence another master's write does to the surface what OWPE's own does (R71,
R75). -/
theorem step_master {s : State} {idx : Nat} {v : Word} {rest : List Move}
    (hm : s.env.script = .master idx v :: rest) (h : s.inPullSequence = false) :
    step s = .next { s.withScript rest with surf := s.surf.absorb s.cfg idx v } := by
  have h' : (s.withScript rest).inPullSequence = false := h
  simp [step, fetch_scripted hm, perform, otherMaster, h']

/-- SETDIR's write of TMP replaces what another master wrote just before to the same register. -/
theorem setdirWrite_after_master {p : Pin} {d : Dir} {s : State} {v : Word} {rest : List Move}
    (hr : s.portReady) (hi : s.inFlight = some (.setdir p d)) (hs : s.seq = .run .setdir 2 0)
    (hm : s.env.script = .master (fselIndex s.cfg p) v :: .engine :: rest) :
    ∃ t, runFor 2 s = .next t ∧ t.seq = .run .setdir 3 0
      ∧ t.surf.fsel =
          s.surf.fsel.setIfInBounds (p.toNat / 10) (fselInsert s.tmp p (dirCode s.cfg d)) := by
  have hmaster := step_master hm (by simp [State.inPullSequence, hs])
  have hwrite := (step_engine_scripted (i := .setdir p d)
    (s := { s.withScript (.engine :: rest) with
      surf := s.surf.absorb s.cfg (fselIndex s.cfg p) v }) rfl hs hi).trans (dirWrite_ready p d hr)
  refine ⟨_, (runFor_succ hmaster).trans (runFor_succ hwrite), ?_, ?_⟩
  · simp [State.afterWrite, hs]
  · simp [State.afterWrite, absorb_fsel]

/-- Settles O20: SETDIR reads, then its write from TMP replaces the other master's. -/
theorem lostUpdate : Obligations.LostUpdate := by
  unfold Obligations.LostUpdate
  intro p d s v rest hr hi hs hm
  have hr' : (s.withScript (.master (fselIndex s.cfg p) v :: .engine :: rest)).portReady := hr
  have hread := (step_engine_scripted (i := .setdir p d) hm hs hi).trans (dirRead_ready p hr')
  rw [runFor_succ hread]
  exact setdirWrite_after_master (v := v) (rest := rest) (hr'.afterRead _)
    ((afterRead_inFlight _ _).trans hi) (by simp [State.afterRead, hs])
    (by simp [State.afterRead, fselIndex])

/-! ### Whole runs -/

theorem State.ReadyAt.afterRead {s : State} {i : Instr} {k : Nat} (h : s.ReadyAt i k) (idx : Nat) :
    (s.afterRead idx).ReadyAt i (k + 1) := by
  have hscript : (s.afterRead idx).env.script = [] := by
    simpa [State.afterRead] using h.undisturbed.1
  exact ⟨⟨hscript, h.portReady.afterRead idx⟩, (afterRead_inFlight s idx).trans h.inFlight,
    by simp [State.afterRead, h.seq]⟩

theorem State.ReadyAt.advance {s : State} {i : Instr} {k : Nat} (h : s.ReadyAt i k) :
    s.advance.ReadyAt i (k + 1) := by
  have hseq : s.advance.seq = .run i.op (k + 1) 0 := by
    rw [State.advance_seq, h.seq, Seq.advance_run]
  exact ⟨h.undisturbed, h.inFlight_of_run hseq rfl rfl rfl, hseq⟩

theorem State.ReadyAt.exec_eq {s : State} {i : Instr} {k : Nat} (h : s.ReadyAt i k) :
    exec i s = commandBody i k s := exec_inFlight h.seq h.inFlight

/-- Settles O23: micro-step after micro-step, then `complete`. -/
theorem pinCommandRuns : Obligations.PinCommandRuns := by
  unfold Obligations.PinCommandRuns
  refine fun p s hu => ⟨fun d hi hs => ?_, fun l hi hs => ?_, fun hi hs => ?_⟩
  · have hr : s.ReadyAt (.setdir p d) 1 := ⟨hu, hi, hs⟩
    have hr2 := hr.afterRead (fselIndex s.cfg p)
    have hr3 := hr2.afterWrite (fselIndex s.cfg p)
      (fselInsert (s.readAnswer (fselIndex s.cfg p)) p (dirCode s.cfg d))
    have run1 := hr.run_one (hr.exec_eq.trans (dirRead_ready p hr.portReady))
    have run2 := hr2.run_one (hr2.exec_eq.trans (dirWrite_ready p d hr2.portReady))
    have run3 := hr3.run_one (t := State.complete _) hr3.exec_eq
    convert runFor_trans run1 (runFor_trans run2 run3) using 2
    simp [State.complete, State.afterWrite, State.afterRead, fselIndex]
  · have hr : s.ReadyAt (.setlvl p l) 1 := ⟨hu, hi, hs⟩
    have hr2 := hr.afterWrite (if l = .high then s.cfg.idxSet else s.cfg.idxClr) (oneHot p)
    have run1 := hr.run_one (hr.exec_eq.trans (levelWrite_ready p l hr.portReady))
    have run2 := hr2.run_one (t := State.complete _) hr2.exec_eq
    exact runFor_trans run1 run2
  · have hr : s.ReadyAt (.rdlvl p) 1 := ⟨hu, hi, hs⟩
    obtain ⟨-, -, -, hlev, -⟩ := indices_lt hr.portReady.2 p
    have hr2 := hr.afterRead s.cfg.idxLev
    have hr2' : State.ReadyAt { s.afterRead s.cfg.idxLev with
        level := pinBit (s.readAnswer s.cfg.idxLev) p } (.rdlvl p) 2 :=
      ⟨hr2.undisturbed, hr2.inFlight, hr2.seq⟩
    have hr3 := hr2'.advance
    have run1 := hr.run_one (hr.exec_eq.trans (regRead_ready hr.portReady hlev))
    have run2 := hr2.run_one (t := State.advance _) hr2.exec_eq
    have run3 := hr3.run_one (t := State.complete _) hr3.exec_eq
    exact runFor_trans run1 (runFor_trans run2 run3)

end Sys2Proof.Machine
end

section
/-! PROOF. A host read (R66). -/

namespace Sys2Proof.Machine

/-- What the host sees does not depend on the moves to come. -/
@[simp] theorem withScript_hostWord (s : State) (moves : List Move) (off : BitVec 8) :
    (s.withScript moves).hostWord off = s.hostWord off := rfl

/-- Settles O9: the move of `HostRead` is `hostRead`. -/
theorem hostReadKeepsState : Obligations.HostReadKeepsState := by
  unfold Obligations.HostReadKeepsState
  intro s off rest h
  simp only [step, fetch_scripted h, perform, hostRead, withScript_hostWord, State.withScript_seen]

end Sys2Proof.Machine
end

section
/-! PROOF. INIT and ACQ keep the order of the start pulse (R71, R140, R141, R218, R246). -/

namespace Sys2Proof.Machine

/-! ### The start-pulse condition -/

/-- The condition speaks of INIT and ACQ in flight alone. -/
theorem State.pinOk_iff (s : State) :
    s.pinOk ↔ ∀ op k b, s.seq = .run op k b → op = .init ∨ op = .acq → s.startPulseOk k := by
  unfold State.pinOk
  split
  · simp_all
  · simp_all
  · rename_i hinit hacq
    refine iff_of_true trivial fun op k b hs hop => ?_
    obtain rfl | rfl := hop
    · exact absurd hs (hinit k b)
    · exact absurd hs (hacq k b)

theorem State.pinOk_of_idle {s : State} (h : s.seq = .idle) : s.pinOk := by
  simp [State.pinOk_iff, h]

theorem State.pinOk_of_run {s : State} {op : Op} {k b : Nat} (hs : s.seq = .run op k b)
    (h : s.startPulseOk k) : s.pinOk := by
  rw [State.pinOk_iff, hs]
  rintro _ _ _ ⟨⟩ -
  exact h

/-- Up to micro-step 7 nothing is asked of the pin. -/
theorem State.startPulseOk_of_le {k : Nat} (s : State) (hk : k ≤ 7) : s.startPulseOk k :=
  ⟨by omega, by omega, by omega, by omega, by omega⟩

/-- From micro-step 15 on the pin is released: its latch is high and it is an input. -/
theorem State.startPulseOk_iff_released {k : Nat} (s : State) (hk : 15 ≤ k) :
    s.startPulseOk k ↔ s.pinLatch = true ∧ s.pinCode = s.cfg.fselInput := by
  constructor
  · rintro ⟨-, -, hlatch, -, hcode⟩
    exact ⟨hlatch (by omega), hcode hk⟩
  · rintro ⟨hlatch, hcode⟩
    exact ⟨by omega, by omega, fun _ => hlatch, by omega, fun _ => hcode⟩

/-- The parameters and the latched pin are the same, and the pin has the latch bit `latch` and the function
code `code`. -/
def State.pinBecomes (latch : Bool) (code : BitVec 3) (s t : State) : Prop :=
  t.cfg = s.cfg ∧ t.pinl = s.pinl ∧ t.pinLatch = latch ∧ t.pinCode = code

/-- Nothing of the pin that the condition speaks of changes. -/
abbrev State.samePin (s t : State) : Prop := s.pinBecomes s.pinLatch s.pinCode t

/-- The function code is read from the function-select registers alone (R71). -/
theorem Surface.code_congr {g g' : Surface} (h : g'.fsel = g.fsel) (p : Pin) :
    g'.code p = g.code p := by
  simp [Surface.code, h]

theorem samePin_of_sameControl {s t : State} (h : sameControl s t)
    (hlatch : t.surf.latch = s.surf.latch) (hfsel : t.surf.fsel = s.surf.fsel) : s.samePin t := by
  obtain ⟨-, -, -, -, -, -, -, hpinl, -, -, hcfg, -⟩ := h
  refine ⟨hcfg, hpinl, ?_, ?_⟩
  · simp only [State.pinLatch, hlatch, hpinl]
  · simp only [State.pinCode, hpinl, Surface.code_congr hfsel]

theorem State.samePin.startPulseOk {s t : State} {k : Nat} (h : s.samePin t)
    (hs : s.startPulseOk k) : t.startPulseOk k := by
  obtain ⟨hcfg, -, hlatch, hcode⟩ := h
  simpa only [State.startPulseOk, hcfg, hlatch, hcode] using hs

/-! ### The accesses to the pin -/

/-- The port hangs (U12), or the micro-step ends and leaves the pin with `latch` and `code`. -/
def State.drivesPin (latch : Bool) (code : BitVec 3) (s t : State) : Prop :=
  t = s ∨ (t.seq = s.seq.advance ∧ s.pinBecomes latch code t)

section
variable {s t : State}

/-- Setting the pin's latch or clearing it leaves its function code (R71, R123). -/
theorem levelWrite_drivesPin {l : Level} (hd : s.cfg.indicesDistinct = true)
    (h : levelWrite s.pinl l s = .next t) : s.drivesPin (decide (l = .high)) s.pinCode t := by
  have hp := s.pinl.isLt
  cases l with
  | low =>
    obtain ⟨-, ⟨-, rfl⟩ | ⟨-, rfl⟩⟩ := regWrite_next h
    · exact .inl rfl
    · refine .inr ⟨rfl, rfl, rfl, ?_, ?_⟩
      · simp [State.pinLatch, absorb_clr hd, getLsbD_oneHot]
      · simp [State.pinCode, absorb_clr hd, Surface.code]
  | high =>
    obtain ⟨-, ⟨-, rfl⟩ | ⟨-, rfl⟩⟩ := regWrite_next h
    · exact .inl rfl
    · refine .inr ⟨rfl, rfl, rfl, ?_, ?_⟩
      · simp [State.pinLatch, absorb_set hd, getLsbD_oneHot]
      · simp [State.pinCode, absorb_set hd, Surface.code]

theorem dirRead_drivesPin {p : Pin} (h : dirRead p s = .next t) :
    s.drivesPin s.pinLatch s.pinCode t := by
  obtain ⟨-, ⟨-, rfl⟩ | ⟨-, rfl⟩⟩ := regRead_next h
  · exact .inl rfl
  · exact .inr ⟨rfl, rfl, rfl, rfl, rfl⟩

/-- A direction change gives the pin its new function code and leaves its latch, whatever word was read
(R71, R122). -/
theorem dirWrite_drivesPin {d : Dir} (h : dirWrite s.pinl d s = .next t) :
    s.drivesPin s.pinLatch (dirCode s.cfg d) t := by
  obtain ⟨-, ⟨-, rfl⟩ | ⟨-, rfl⟩⟩ := regWrite_next h
  · exact .inl rfl
  · refine .inr ⟨rfl, rfl, rfl, ?_, code_after_insert s.cfg s.surf s.tmp s.pinl _⟩
    simp [State.pinLatch, absorb_fsel]

theorem wait_samePin {d : Nat} (h : wait d s = .next t) :
    s.samePin t ∧ (t.seq = s.seq ∨ t.seq = s.seq.advance ∨ t.seq = s.seq.within 1) := by
  have hseq := (wait_portStep (A := fun _ => True) trivial h).seq_cases
  rw [wait_eq] at h
  cases h
  exact ⟨⟨rfl, rfl, rfl, rfl⟩, hseq⟩

end

/-! ### INIT and ACQ up to the end of the start pulse -/

/-- The command stands at a micro-step whose condition holds. -/
def State.pulseAt (op : Op) (s : State) : Prop := ∃ k b, s.seq = .run op k b ∧ s.startPulseOk k

theorem State.pulseAt.pinOk {op : Op} {s : State} (h : s.pulseAt op) : s.pinOk := by
  obtain ⟨k, b, hs, hpulse⟩ := h
  exact State.pinOk_of_run hs hpulse

section
variable {s t : State} {op : Op} {k b : Nat}

/-- An access keeps the condition where what it makes of the pin meets that of the next micro-step. -/
theorem State.drivesPin.pulseAt {latch : Bool} {code : BitVec 3} (h : s.drivesPin latch code t)
    (hs : s.seq = .run op k b) (hpulse : s.startPulseOk k)
    (hnext : s.pinBecomes latch code t → t.startPulseOk (k + 1)) : t.pulseAt op := by
  obtain rfl | ⟨hseq, hpin⟩ := h
  · exact ⟨k, b, hs, hpulse⟩
  · exact ⟨k + 1, 0, by rw [hseq, hs, Seq.advance_run], hnext hpin⟩

/-- The latch sequence ends before anything is asked of the pin (R140). -/
theorem pullStep_pulseAt {p : Pin} (hs : s.seq = .run op k b) (h : pullStep p k s = .next t) :
    t.pulseAt op := by
  obtain ⟨hk, hp⟩ := pullStep_portStep (by simp [hs]) h
  obtain hseq | hseq | hseq := hp.seq_cases <;> rw [hs] at hseq
  · exact ⟨_, _, hseq, t.startPulseOk_of_le (by omega)⟩
  · exact ⟨_, _, hseq, t.startPulseOk_of_le (by omega)⟩
  · exact ⟨_, _, hseq, t.startPulseOk_of_le (by omega)⟩

/-- Micro-steps 1 to 14: latch high, output, latch low, the wait, latch high, input (R140, R141). -/
theorem initiateStep_pulseAt (hd : s.cfg.indicesDistinct = true) (hs : s.seq = .run op k b)
    (hpulse : s.startPulseOk k) (h : initiateStep s.pinl k s = .next t) : t.pulseAt op := by
  have ⟨hhigh, hlow, hagain, hout, _⟩ := hpulse
  unfold initiateStep at h
  split at h
  case h_1 | h_4 | h_6 =>
    refine (levelWrite_drivesPin hd h).pulseAt hs hpulse ?_
    rintro ⟨hcfg, -, hlatch, hcode⟩
    simp [State.startPulseOk, hcfg, hlatch, hcode, hout]
  case h_2 | h_7 =>
    refine (dirRead_drivesPin h).pulseAt hs hpulse ?_
    rintro ⟨hcfg, -, hlatch, hcode⟩
    simp [State.startPulseOk, hcfg, hlatch, hcode, hhigh, hagain, hout]
  case h_3 | h_8 =>
    refine (dirWrite_drivesPin h).pulseAt hs hpulse ?_
    rintro ⟨hcfg, -, hlatch, hcode⟩
    simp [State.startPulseOk, hcfg, hlatch, hcode, hhigh, hagain, dirCode]
  case h_5 =>
    obtain ⟨hpin, hseq⟩ := wait_samePin h
    obtain hq | hq | hq := hseq <;> rw [hs] at hq
    · exact ⟨_, _, hq, hpin.startPulseOk hpulse⟩
    · exact ⟨_, _, hq, hpin.startPulseOk (by simp [State.startPulseOk, hlow, hout])⟩
    · exact ⟨_, _, hq, hpin.startPulseOk hpulse⟩
  case h_9 => exact pullStep_pulseAt hs h

end

/-! ### ACQ from the capture on -/

section
variable {s t : State} {k b : Nat}

/-- The capture stage stays at ACQ's micro-steps from 15 on, or ends the command (R200, R201). -/
theorem CaptureStep.acq_seq {p : Pin} {n : BitVec 6} {j : Nat}
    (hs : s.seq = .run .acq (j + 14) b) (h1 : 1 ≤ j)
    (h : CaptureStep p n (State.goto 23) s j t) :
    t.seq = .idle ∨ ∃ k' b', t.seq = .run .acq k' b' ∧ 15 ≤ k' := by
  cases h with
  | late => exact .inl rfl
  | hangs => exact .inr ⟨_, _, hs, by omega⟩
  | pause d =>
    obtain hq | hq | hq := (PortStep.wait (A := fun _ => True) d trivial).seq_cases <;>
      rw [hs] at hq <;> exact .inr ⟨_, _, hq, by omega⟩
  | discard | first | enter | reached | short | inTime | sample | clearFlag | noEdge | edge | flagged
  | sampled | noPause => simp [hs, beginCapture]

/-- From micro-step 15 on ACQ leaves the pin alone, and its micro-steps are not before 15 (R200, R218). -/
theorem acqStep_released {p : Pin} (hd : s.cfg.indicesDistinct = true) (hs : s.seq = .run .acq k b)
    (hk : 15 ≤ k) (h : acqStep p k s = .next t) :
    t.surf.latch = s.surf.latch ∧ t.surf.fsel = s.surf.fsel
      ∧ (t.seq = .idle ∨ ∃ k' b', t.seq = .run .acq k' b' ∧ 15 ≤ k') := by
  obtain ⟨hk14, -⟩ | ⟨j, rfl, h1, -, hc⟩ | ⟨-, rfl⟩ | ⟨-, hdec⟩ | ⟨-, hfin⟩ :=
    acqStep_cases (by simp [hs]) h
  · omega
  · obtain ⟨-, -, hfsel, hlatch, -⟩ := hc.captureKeeps hd (captureKeeps_of_same rfl rfl rfl)
    exact ⟨hlatch, hfsel, hc.acq_seq hs h1⟩
  · exact ⟨rfl, rfl, .inr ⟨18, 0, by simp [hs], by decide⟩⟩
  · obtain ⟨-, rfl⟩ | ⟨-, rfl⟩ := decodeBody_cases hdec
    · exact ⟨rfl, rfl, .inl rfl⟩
    · exact ⟨rfl, rfl, .inr ⟨24, 0, by simp [hs], by decide⟩⟩
  · obtain ⟨⟨-, -, hsurf, -⟩, -, -, hidle⟩ := finalizeBody_keeps hfin
    exact ⟨by rw [hsurf], by rw [hsurf], .inl hidle⟩

end

/-! ### Every command and every move -/

section
variable {s t : State}

theorem exec_acq_pinOk {p : Pin} {k b : Nat} (hd : s.cfg.indicesDistinct = true)
    (hi : s.inFlight = some (.acq p)) (hs : s.seq = .run .acq k b) (hk : 15 ≤ k)
    (hpulse : s.startPulseOk k) (h : exec (.acq p) s = .next t) : t.pinOk := by
  obtain ⟨hcontrol, -⟩ := exec_keepsControl hi h
  rw [exec_inFlight hs hi] at h
  obtain ⟨hlatch, hfsel, hidle | ⟨k', b', ht, hk'⟩⟩ := acqStep_released hd hs hk h
  · exact State.pinOk_of_idle hidle
  · refine State.pinOk_of_run ht ?_
    exact (samePin_of_sameControl hcontrol hlatch hfsel).startPulseOk
      ((s.startPulseOk_iff_released hk').mpr ((s.startPulseOk_iff_released hk).mp hpulse))

/-- The pin operand of INIT or ACQ in flight is the latched one (R36). -/
theorem pin_of_inFlight {i : Instr} {p : Pin} (h : i = .init p ∨ i = .acq p)
    (hi : s.inFlight = some i) : s.pinl = p := by
  obtain ⟨k, b, hs⟩ := seq_of_inFlight hi
  rw [State.inFlight_of_run hs] at hi
  obtain rfl | rfl := h <;> simpa [Op.instr, Instr.op] using hi

/-- Every command in flight keeps the condition: only INIT and ACQ are asked for it. -/
theorem exec_pinOk {i : Instr} (hd : s.cfg.indicesDistinct = true) (hi : s.inFlight = some i)
    (hpin : s.pinOk) (h : exec i s = .next t) : t.pinOk := by
  obtain ⟨k, b, hs⟩ := seq_of_inFlight hi
  have hstart : ∀ p, i = .init p ∨ i = .acq p → k ≤ 14 → t.pinOk := fun p hip hk => by
    obtain rfl := pin_of_inFlight hip hi
    have hpulse : s.startPulseOk k :=
      s.pinOk_iff.mp hpin _ k b hs (hip.imp (by rintro rfl; rfl) (by rintro rfl; rfl))
    rw [exec_initiate hip hk hs hi] at h
    exact (initiateStep_pulseAt hd hs hpulse h).pinOk
  cases i with
  | init p =>
    by_cases hk : k ≤ 14
    · exact hstart p (.inl rfl) hk
    · rw [exec_inFlight hs hi] at h
      obtain rfl | ⟨hk', -⟩ := initStep_cases (by simp [hs]) h
      · exact State.pinOk_of_idle rfl
      · contradiction
  | acq p =>
    by_cases hk : k ≤ 14
    · exact hstart p (.inr rfl) hk
    · exact exec_acq_pinOk hd hi hs (by omega) (s.pinOk_iff.mp hpin _ k b hs (.inr rfl)) h
  | pullup | setdir | setlvl | rdlvl | capt | dec | fin =>
    obtain ⟨-, -, hidle | hop⟩ := exec_keepsControl hi h
    · exact State.pinOk_of_idle hidle
    · rw [State.pinOk_iff]
      intro op k' b' ht hop'
      simp only [ht, hs, Seq.op?, Option.some.injEq, Instr.op] at hop
      simp [hop] at hop'

/-- Acceptance leaves SEQ, or starts a command at its first micro-step (R96). -/
theorem acceptWord_seq (w : Word) (s : State) :
    (acceptWord w s).seq = s.seq ∨ ∃ op, (acceptWord w s).seq = .run op 1 0 := by
  simp only [acceptWord]
  repeat' split
  all_goals simp

/-- At its first micro-step nothing is asked of a command's pin. -/
theorem acceptWord_pinOk (w : Word) (hidle : s.seq = .idle) : (acceptWord w s).pinOk := by
  obtain hs | ⟨op, hs⟩ := acceptWord_seq w s
  · exact State.pinOk_of_idle (hs.trans hidle)
  · exact State.pinOk_of_run hs (State.startPulseOk_of_le _ (by decide))

/-- A move of the host stores what the condition does not speak of, or accepts a command. -/
theorem MoveStep.pinOk_of_byHost {m : Move} (h : MoveStep s m t) (hm : m.byHost = true)
    (hpin : s.pinOk) : t.pinOk := by
  cases h with
  | engine | idle | reset => cases hm
  | outside _ _ hout => simp [hm] at hout
  | accepted w hidle => exact acceptWord_pinOk w hidle
  | rejected | stored | looked => exact hpin

/-- A move that runs no command keeps the condition, unless it is another master's write (R246): event
flags and levels are no part of it. -/
theorem perform_settled_pinOk {m : Move} (hm : ∀ idx v, m ≠ .master idx v) (hpin : s.pinOk)
    (h : perform m s = .settled t) : t.pinOk := by
  cases m with
  | engine =>
    simp only [perform, engineTurn] at h
    split at h <;> cases h
    exact hpin
  | read | write | poll => exact (perform_settled_moveStep h).pinOk_of_byHost rfl hpin
  | reset =>
    cases h
    exact State.pinOk_of_idle rfl
  | flags | line =>
    cases h
    exact hpin
  | master idx v => exact absurd rfl (hm idx v)

/-- A step performs the script's first move, the ENGINE's where the script is empty (log entry 7). -/
theorem fetch_eq_perform_headD (s : State) :
    fetch s = perform (s.env.script.headD .engine) (s.withScript s.env.script.tail) := by
  cases hm : s.env.script with
  | nil =>
    have hs : s.withScript [] = s := by rw [← hm]; rfl
    simp [fetch, hm, perform, hs]
  | cons m rest => simp [fetch, hm]

end

/-- Settles O28: the ENGINE's step keeps the condition micro-step by micro-step, and no other move but
another master's write reaches the pin's latch or function code. -/
theorem startPulseOrderKept : Obligations.StartPulseOrderKept := by
  unfold Obligations.StartPulseOrderKept
  intro s t _ hd hpin hmaster h
  have hm : ∀ idx v, s.env.script.headD .engine ≠ .master idx v := by
    cases hs : s.env.script <;> simp_all
  simp only [step, fetch_eq_perform_headD] at h
  split at h
  · rename_i i u hp
    obtain ⟨rfl, hi | hidle⟩ := perform_command hp
    · exact exec_pinOk (s := s.withScript s.env.script.tail) hd hi hpin h
    · rw [exec_idle i hidle] at h
      cases h
      exact acceptWord_pinOk _ hidle
  · cases h
    exact perform_settled_pinOk (s := s.withScript s.env.script.tail) hm hpin ‹_›

end Sys2Proof.Machine
end

section
/-! PROOF. The command word read back: a legal word is one command's word, and which words are legal (R92,
R93, R95, R99). -/

namespace Sys2Proof.Machine

/-! ### Bits and fields -/

/-- Every bit of a word belongs to the opcode, to a field its format uses, or to the format's must-be-zero
mask (R91, R92). -/
theorem format_bit_cases (f : Format) {j : Nat} (hj : j < 32) :
    j < 4 ∨ f.zmask.getLsbD j = true ∨ (f ≠ .N ∧ 8 ≤ j ∧ j < 13) ∨ (f = .PA ∧ j = 16)
      ∨ (f = .PM ∧ 24 ≤ j ∧ j < 30) := by
  revert j
  cases f <;> decide

@[simp] theorem dir_ofBit_inj {a b : Bool} : Dir.ofBit a = Dir.ofBit b ↔ a = b := by
  revert a b
  decide

@[simp] theorem level_ofBit_inj {a b : Bool} : Level.ofBit a = Level.ofBit b ↔ a = b := by
  revert a b
  decide

/-- A command has the operands of its format (R92, R93): the fields in use can be read off it. -/
theorem instr_operands {op : Op} {p p' : Pin} {a a' : Bool} {n n' : BitVec 6}
    (h : op.instr p a n = op.instr p' a' n') :
    (op.format ≠ .N → p = p') ∧ (op.format = .PA → a = a') ∧ (op.format = .PM → n = n') := by
  cases op with
  | dec | fin => simp [Op.format]
  | pullup | setdir | setlvl | rdlvl | init | capt | acq => simpa [Op.instr, Op.format] using h

theorem getLsbD_opcField (w : Word) {j : Nat} (hj : j < 4) : (opcField w).getLsbD j = w.getLsbD j := by
  simp [opcField, hj]

theorem getLsbD_pinField (w : Word) {j : Nat} (h8 : 8 ≤ j) (hj : j < 13) :
    (pinField w).getLsbD (j - 8) = w.getLsbD j := by
  simp [pinField, show j - 8 < 5 by omega, show 8 + (j - 8) = j by omega]

theorem getLsbD_maxEdgesField (w : Word) {j : Nat} (h24 : 24 ≤ j) (hj : j < 30) :
    (maxEdgesField w).getLsbD (j - 24) = w.getLsbD j := by
  simp [maxEdgesField, show j - 24 < 6 by omega, show 24 + (j - 24) = j by omega]

/-- Two words of one opcode with zeros outside the fields it uses and the same command in them are one
word (R92, R99). -/
theorem word_eq_of_fields {op : Op} {w w' : Word} (hop : opcField w = opcField w')
    (hz : w &&& op.format.zmask = 0#32) (hz' : w' &&& op.format.zmask = 0#32)
    (hi : op.instr (pinField w) (argField w) (maxEdgesField w) =
      op.instr (pinField w') (argField w') (maxEdgesField w')) : w = w' := by
  obtain ⟨hpin, harg, hmax⟩ := instr_operands hi
  apply BitVec.eq_of_getLsbD_eq
  intro j hj
  obtain h | h | ⟨hf, h8, h13⟩ | ⟨hf, rfl⟩ | ⟨hf, h24, h30⟩ := format_bit_cases op.format hj
  · rw [← getLsbD_opcField w h, hop, getLsbD_opcField w' h]
  · rw [getLsbD_of_masked hz h, getLsbD_of_masked hz' h]
  · rw [← getLsbD_pinField w h8 h13, hpin hf, getLsbD_pinField w' h8 h13]
  · exact harg hf
  · rw [← getLsbD_maxEdgesField w h24 h30, hmax hf, getLsbD_maxEdgesField w' h24 h30]

/-! ### Decoding a legal word (R95) -/

/-- The one operand with an illegal value is CAPT's (R95 clause (c)). -/
theorem wellFormed_instr {op : Op} {n : BitVec 6} (p : Pin) (a : Bool)
    (h : op = .capt → n.toNat ≤ 42) : (op.instr p a n).wellFormed = true := by
  cases op with
  | capt => exact decide_eq_true (h rfl)
  | pullup | setdir | setlvl | rdlvl | init | dec | fin | acq => rfl

/-- The converse of `decode_ok`: a word that meets the clauses of R95 decodes to the command of its
fields. -/
theorem decode_of_legal {w : Word} {op : Op} (hop : opcField w = op.code)
    (hz : w &&& op.format.zmask = 0#32) (hn : op = .capt → (maxEdgesField w).toNat ≤ 42) :
    decode w = .ok (op.instr (pinField w) (argField w) (maxEdgesField w)) := by
  have hcount : ¬(op = .capt ∧ Config.maxEdges < (maxEdgesField w).toNat) := fun ⟨hc, hlt⟩ =>
    Nat.not_lt.mpr (hn hc) hlt
  simp only [decode, hop, Op.ofCode_code, hz, ne_eq, not_true_eq_false, if_false, if_neg hcount]

/-- A legal word carries the opcode of its command. -/
theorem opcField_of_decode {w : Word} {i : Instr} (h : decode w = .ok i) : opcField w = i.op.code := by
  obtain ⟨op, hop, -, -, rfl⟩ := decode_ok h
  rw [hop, Op.op_instr]

/-- A legal word is the word of the command it decodes to (R99). -/
theorem encode_of_decode {w : Word} {i : Instr} (h : decode w = .ok i) : encode i = w := by
  obtain ⟨op, hop, hz, -, hi⟩ := decode_ok h
  have hiop : i.op = op := by rw [hi, Op.op_instr]
  subst hiop
  obtain ⟨hop', hz'⟩ := commandWord i
  exact word_eq_of_fields (hop'.trans hop.symm) hz' hz ((instr_fields i).trans hi)

/-- Settles O1: `decode_encode`, for all nine commands. -/
theorem decodeEncodeRoundTrip : Obligations.DecodeEncodeRoundTrip :=
  fun _ h => decode_encode h

/-- Settles O2: outside its fields a legal word is 0, and its fields hold the command. -/
theorem encodeDecodeRoundTrip : Obligations.EncodeDecodeRoundTrip := by
  unfold Obligations.EncodeDecodeRoundTrip
  intro w i h
  refine ⟨?_, encode_of_decode h⟩
  obtain ⟨op, -, -, hn, rfl⟩ := decode_ok h
  exact wellFormed_instr _ _ hn

/-! ### Legality with the numbers of R92 and R95 -/

/-- The opcode numbers are 1 to 9 (R93). -/
theorem exists_code_iff (c : BitVec 4) : (∃ op : Op, c = op.code) ↔ 1 ≤ c.toNat ∧ c.toNat ≤ 9 := by
  constructor
  · rintro ⟨op, rfl⟩
    cases op <;> decide
  · rintro ⟨h1, h9⟩
    have hsome : ∀ c : BitVec 4, 1 ≤ c.toNat → c.toNat ≤ 9 → (Op.ofCode c).isSome = true := by
      decide
    obtain ⟨op, hop⟩ := Option.isSome_iff_exists.mp (hsome c h1 h9)
    exact ⟨op, Op.code_of_ofCode hop⟩

/-- The must-be-zero masks by opcode number (R92, R93). -/
theorem zmask_of_code (op : Op) :
    op.format.zmask =
      if op.code = 0x7#4 ∨ op.code = 0x8#4 then 0xFFFFFFF0#32
      else if op.code = 0x2#4 ∨ op.code = 0x3#4 then 0xFFFEE0F0#32
      else if op.code = 0x6#4 then 0xC0FFE0F0#32
      else 0xFFFFE0F0#32 := by
  cases op <;> rfl

theorem code_eq_capt (op : Op) : op.code = 0x6#4 ↔ op = .capt := by cases op <;> decide

/-- Settles O3: a number of 1 to 9 is one opcode's, and that opcode's mask and count test are R95's. -/
theorem legalWordsExactly : Obligations.LegalWordsExactly := by
  unfold Obligations.LegalWordsExactly
  intro w
  rw [← exists_code_iff]
  constructor
  · rintro ⟨i, h⟩
    obtain ⟨op, hop, hz, hn, -⟩ := decode_ok h
    rw [show w.extractLsb' 0 4 = op.code from hop, ← zmask_of_code, code_eq_capt]
    exact ⟨⟨op, rfl⟩, hz, hn⟩
  · rintro ⟨⟨op, hop⟩, hz, hn⟩
    rw [hop, ← zmask_of_code] at hz
    rw [hop, code_eq_capt] at hn
    exact ⟨_, decode_of_legal hop hz hn⟩

/-- Settles O4: each word evaluated by the decoder. -/
theorem specWordsDecode : Obligations.SpecWordsDecode := by
  unfold Obligations.SpecWordsDecode
  decide

end Sys2Proof.Machine
end

section
/-! PROOF. The CMD write, and where a command is turned away (R96, R97, R212, R217). -/

namespace Sys2Proof.Machine

theorem step_commandWrite_idle {s : State} {w : Word} {rest : List Move}
    (h : s.env.script = .write 0x00#8 w :: rest) (hidle : s.seq = .idle) :
    step s = .next (acceptWord w (s.withScript rest)) := by
  have hbusy : (s.withScript rest).busy = false := (State.busy_eq_false_iff _).mpr hidle
  cases hd : decode w with
  | ok i =>
    simp only [step, fetch_scripted h, perform_commandWrite (s := s.withScript rest) hidle hd]
    rw [exec_idle i (s := s.withScript rest) hidle, encode_of_decode hd]
  | error why => simp [step, fetch_scripted h, perform, commandWrite, hbusy, hd]

theorem step_commandWrite_busy {s : State} {w : Word} {rest : List Move}
    (h : s.env.script = .write 0x00#8 w :: rest) (hrun : s.seq ≠ .idle) :
    step s = .next (s.withScript rest).reject := by
  have hbusy : (s.withScript rest).busy = true := (State.busy_iff _).mpr hrun
  simp [step, fetch_scripted h, perform, commandWrite, hbusy]

/-- Every command but DEC and FIN touches the surface (R96), by opcode number. -/
theorem touchesSurface_iff_code (op : Op) :
    op.touchesSurface = true ↔ op.code ≠ 0x7#4 ∧ op.code ≠ 0x8#4 := by cases op <;> decide

/-- Every command but DEC and FIN touches the surface (R96). -/
theorem touchesSurface_of_ne {i : Instr} (hdec : i ≠ .dec) (hfin : i ≠ .fin) :
    i.op.touchesSurface = true := by
  cases i with
  | dec => exact absurd rfl hdec
  | fin => exact absurd rfl hfin
  | pullup | setdir | setlvl | rdlvl | init | capt | acq => rfl

/-- Settles O5: the write is `acceptWord`, whose checks come in R217's order. -/
theorem commandWriteWhileIdle : Obligations.CommandWriteWhileIdle := by
  unfold Obligations.CommandWriteWhileIdle
  intro s w rest h hidle
  rw [step_commandWrite_idle h hidle]
  congr 1
  cases hd : decode w with
  | error why => exact acceptWord_illegal hd
  | ok i =>
    have htouch : i.op.touchesSurface = true ↔
        w.extractLsb' 0 4 ≠ 0x7#4 ∧ w.extractLsb' 0 4 ≠ 0x8#4 := by
      rw [touchesSurface_iff_code, ← opcField_of_decode hd]
      rfl
    simp only [← htouch]
    split
    · exact acceptWord_fatal hd ‹_›
    · have hfatal : s.fatal = false := by simpa using ‹¬s.fatal = true›
      split
      · obtain ⟨ht, hs⟩ := ‹_ ∧ _›
        exact acceptWord_unreachable hd hfatal ht hs
      · refine acceptWord_starts hd hfatal fun ht => ?_
        have hs : s.env.surfaceOk ≠ false := fun hs => ‹¬(_ ∧ _)› ⟨ht, hs⟩
        simpa using hs

/-- Settles O6: while BUSY the write is `reject`. -/
theorem commandWriteWhileBusy : Obligations.CommandWriteWhileBusy :=
  fun _ _ _ h hrun => step_commandWrite_busy h hrun

/-- A command issued while another is in flight is rejected (R97), whichever it is. -/
theorem exec_other {i : Instr} {s : State} (hrun : s.seq ≠ .idle) (hi : s.inFlight ≠ some i) :
    exec i s = .next s.reject := by
  cases i <;> exact runCommand_other hrun hi

/-- Settles O15: on an idle engine the command's own word meets the checks of acceptance; with another
command in flight it is rejected. -/
theorem commandsTurnedAway : Obligations.CommandsTurnedAway := by
  unfold Obligations.CommandsTurnedAway
  refine ⟨fun i s hwf hidle hfatal => ?_, fun i s hwf hidle hfatal hdec hfin hsurf => ?_,
    fun i s hrun hi => exec_other hrun hi⟩
  · rw [exec_idle i hidle, acceptWord_fatal (decode_encode hwf) hfatal]
  · rw [exec_idle i hidle,
      acceptWord_unreachable (decode_encode hwf) hfatal (touchesSurface_of_ne hdec hfin) hsurf]

end Sys2Proof.Machine
end

section
/-! PROOF. The frame decoder bit by bit (R101, R103, R173, R176). -/

namespace Sys2Proof.Machine

/-- After `n` lines of the packing the bits `0` to `n - 1` stand in their places and the rest of the
payload is 0 (R173). -/
theorem getLsbD_packed (f : Nat → Bool) {n : Nat} (hn : n ≤ 40) {b : Nat} (hb : b < 40) :
    ((List.range n).foldl (fun payload b => packBit b (f b) payload) zeroPayload)[4 - b / 8].getLsbD
      (7 - b % 8) = (decide (b < n) && f b) := by
  induction n with
  | zero => simp [zeroPayload]
  | succ n ih =>
    have hsame : (4 - b / 8 = 4 - n / 8 ∧ 7 - b % 8 = 7 - n % 8) ↔ b = n := by omega
    simp only [List.range_succ, List.foldl_append, List.foldl_cons, List.foldl_nil]
    rw [getLsbD_packBit n _ _ _ _ (by omega) (by omega) (by omega), ih (by omega)]
    simp only [hsame]
    by_cases h : b = n
    · simp [h]
    · simp [h, show b < n + 1 ↔ b < n by omega]

/-- Settles O39: each bit is packed once, into its own place. -/
theorem framePacking : Obligations.FramePacking := by
  unfold Obligations.FramePacking
  rintro thresh e ⟨b, hb⟩
  rw [frameDecode, getLsbD_packed _ (Nat.le_refl 40) hb]
  simp [hb, frameBit, show b + 1 < 42 by omega, show b + 2 < 42 by omega]

/-- The forty bits of a frame are the whole payload (R101). -/
theorem payload_ext {u v : Vector Byte 5}
    (h : ∀ b : Fin 40,
      u[4 - b.val / 8].getLsbD (7 - b.val % 8) = v[4 - b.val / 8].getLsbD (7 - b.val % 8)) : u = v := by
  ext j hj i hi
  have hbyte : 4 - (8 * (4 - j) + (7 - i)) / 8 = j := by omega
  have hbit : 7 - (8 * (4 - j) + (7 - i)) % 8 = i := by omega
  simpa only [hbyte, hbit, BitVec.getLsbD_eq_getElem hi] using h ⟨8 * (4 - j) + (7 - i), by omega⟩

/-- Settles O40: the forty intervals start at the second edge. -/
theorem decodeIgnoresFirstEdge : Obligations.DecodeIgnoresFirstEdge := by
  unfold Obligations.DecodeIgnoresFirstEdge
  intro thresh e f h
  refine payload_ext fun b => ?_
  have hlo : e[b.val + 1] = f[b.val + 1] := h ⟨b.val + 1, by omega⟩ (by simp)
  have hhi : e[b.val + 2] = f[b.val + 2] := h ⟨b.val + 2, by omega⟩ (by simp)
  rw [framePacking, framePacking, hlo, hhi]

/-- Settles O41: 120 000 ns and 70 000 ns lie on the two sides of R172's 101 000 ns. -/
theorem synthesisedFrameDecodes : Obligations.SynthesisedFrameDecodes := by
  unfold Obligations.SynthesisedFrameDecodes
  intro payload e hwf helapsed
  refine payload_ext fun b => ?_
  have hlo : timeWellFormed e[b.val + 1] := hwf ⟨b.val + 1, by omega⟩
  have hhi : timeWellFormed e[b.val + 2] := hwf ⟨b.val + 2, by omega⟩
  have hns := helapsed b
  have hbit := (intervalThreshold _ _ hlo hhi).1 (by rw [hns]; split <;> decide)
  rw [framePacking, Bool.eq_iff_iff, hbit, hns]
  split <;> simp_all

end Sys2Proof.Machine
end

section
/-! PROOF. The function-select word bit by bit (R122, R125). -/

namespace Sys2Proof.Machine

/-- A 3-bit value shifted to a pin's field (R122): its own bits there, 0 elsewhere. -/
theorem getLsbD_shiftToField (p : Pin) (code : BitVec 3) {j : Nat} (hj : j < 32) :
    (code.setWidth 32 <<< fselShift p).getLsbD j =
      (decide (fselShift p ≤ j) && code.getLsbD (j - fselShift p)) := by
  simp only [BitVec.getLsbD_shiftLeft, BitVec.getLsbD_setWidth]
  by_cases h : fselShift p ≤ j
  · simp [h, hj, show j - fselShift p < 32 by omega]
  · simp [h, show j < fselShift p by omega]

/-- The mask is the field's three bits (R122). -/
theorem getLsbD_fselMask (p : Pin) {j : Nat} (hj : j < 32) :
    (fselMask p).getLsbD j = decide (fselShift p ≤ j ∧ j < fselShift p + 3) := by
  have hones : 0b111#32 = (BitVec.allOnes 3).setWidth 32 := by decide
  rw [fselMask, hones, getLsbD_shiftToField p _ hj, BitVec.getLsbD_allOnes, ← Bool.decide_and,
    decide_eq_decide]
  omega

/-- Settles O19: inside the field the mask clears the old bit and the code supplies the new one; outside it
the mask keeps the old bit and the shifted code is 0. -/
theorem directionChangesOnlyItsField : Obligations.DirectionChangesOnlyItsField := by
  unfold Obligations.DirectionChangesOnlyItsField
  intro old p code j hj
  change _ = if fselShift p ≤ j ∧ j < fselShift p + 3 then code.getLsbD (j - fselShift p) else _
  rw [fselInsert, BitVec.getLsbD_or, BitVec.getLsbD_and, BitVec.getLsbD_not,
    getLsbD_fselMask p hj, getLsbD_shiftToField p code hj]
  split
  next hin => simp [hin]
  next hout =>
    have hcode : (decide (fselShift p ≤ j) && code.getLsbD (j - fselShift p)) = false := by
      by_cases hlo : fselShift p ≤ j
      · simp [BitVec.getLsbD_of_ge code (j - fselShift p) (by omega)]
      · simp [hlo]
    simp [hcode, hout, hj]

end Sys2Proof.Machine
end

section
/-! PROOF. The micro-steps of the capture loop outside its body, and the loop's end once the deadline has passed
(R150, R153, R156). -/

namespace Sys2Proof.Machine

/-- Settles O29: each of steps 1 to 7 is `captureStep`'s, and step 8 is the jump back. -/
theorem captureMicroSteps : Obligations.CaptureMicroSteps := by
  unfold Obligations.CaptureMicroSteps
  intro p n i base s j b h hi hs
  have hexec : 1 ≤ j → j ≤ 7 → exec i s =
      captureStep p n (if i = .capt p n then State.complete else State.goto 23) j s :=
    fun h1 h7 => exec_capture h h1 h7 hs hi
  have hback : j = 8 → exec i s = .next { s with seq := .run i.op (base + 4) 0 } := by
    rintro rfl
    rw [exec_inFlight hs hi]
    obtain ⟨rfl, rfl⟩ | ⟨rfl, -, rfl⟩ := h <;>
      simp [commandBody, captStep, acqStep, State.goto, hs, Instr.op]
  refine ⟨?_, ?_, ?_, ?_, ?_, ?_, ?_, ?_, ?_, ?_, hback⟩ <;> rintro rfl <;>
    rw [hexec (by decide) (by decide)]
  · rfl
  · rfl
  · rfl
  · rintro hcnt rfl
    simp [captureStep, hcnt, State.complete]
  · rintro hcnt rfl
    simp [captureStep, hcnt, State.goto, hs, Instr.op]
  · intro hcnt
    simp [captureStep, hcnt, State.advance]
  · intro hlate
    simp [captureStep, deadlineTest, deadlineNs, hlate, State.raiseErr, State.observed]
  · intro htime
    simp [captureStep, deadlineTest, deadlineNs, not_lt.mpr htime, State.advance, State.observed]
  · intro hzero
    simp [captureStep, hzero, State.advance]
  · intro hpos
    simp [captureStep, hpos, wait_eq]

/-! ### A capture whose deadline has passed -/

/-- The command whose capture SEQ stands in: CAPT, or ACQ with its 42 edges (R200). -/
theorem State.Inv.captureCommand {s : State} {j : Nat} (h : s.Inv) (hj : s.seq.captureAt = some j) :
    ∃ i base b, ((i = .capt s.pinl s.maxe ∧ base = 0) ∨ (i = .acq s.pinl ∧ s.maxe = 42#6 ∧ base = 14))
      ∧ s.inFlight = some i ∧ s.seq = .run i.op (base + j) b := by
  obtain ⟨b, hs | ⟨hs, -⟩⟩ := captureAt_eq_some hj
  · exact ⟨_, 0, b, .inl ⟨rfl, rfl⟩, State.inFlight_of_run hs, by simpa [Instr.op] using hs⟩
  · exact ⟨_, 14, b, .inr ⟨rfl, h.acq_maxe hs, rfl⟩, State.inFlight_of_run hs,
      by simpa [Instr.op, Nat.add_comm] using hs⟩

/-- A capture has eight steps (R150). -/
theorem State.Inv.captureAt_le {s : State} {j : Nat} (h : s.Inv) (hj : s.seq.captureAt = some j) :
    j ≤ 8 := by
  obtain ⟨b, hs | ⟨-, -, h8⟩⟩ := captureAt_eq_some hj
  · exact (h.position hs).2
  · exact h8

/-- Only the ENGINE moves, SEQ stands at step `j` of a capture without a pause between samples, and at least
`obs` observations are scripted, all of them past the deadline. -/
structure State.Overdue (s : State) (j obs : Nat) : Prop where
  inv : s.Inv
  undisturbed : s.undisturbed
  capturing : s.seq.captureAt = some j
  noPause : s.cfg.tPollNs = 0
  scripted : obs ≤ s.env.times.length
  late : ∀ t ∈ s.env.times, deadlineNs s.timeout < elapsedNs s.t0 t

/-- Within `k` steps SEQ leaves the capture, by the deadline or with MAXE edges. -/
def State.endsCaptureWithin (k : Nat) (s : State) : Prop :=
  ∃ n t, n ≤ k ∧ runFor n s = .next t ∧ t.seq.captureAt = none
    ∧ ((t.trunc = true ∧ t.err = .captureTimeout) ∨ t.edgecnt = s.maxe)

@[simp] theorem State.envAfterNow_times (s : State) : s.envAfterNow.times = s.env.times.tail := by
  unfold State.envAfterNow
  split <;> simp_all

section
variable {s t : State} {j j' obs k : Nat}

theorem State.Overdue.mono (h : s.Overdue j obs) {obs' : Nat} (hle : obs' ≤ obs) :
    s.Overdue j obs' :=
  { h with scripted := hle.trans h.scripted }

theorem State.endsCaptureWithin.mono (h : s.endsCaptureWithin k) {k' : Nat} (hk : k ≤ k') :
    s.endsCaptureWithin k' := by
  obtain ⟨n, t, hn, h⟩ := h
  exact ⟨n, t, hn.trans hk, h⟩

/-- Where one step leaves the capture. -/
theorem endsCaptureWithin_one (hstep : step s = .next t) (ht : t.seq.captureAt = none)
    (hend : (t.trunc = true ∧ t.err = .captureTimeout) ∨ t.edgecnt = s.maxe) :
    s.endsCaptureWithin 1 :=
  ⟨1, t, le_rfl, by rw [runFor_succ hstep, runFor_zero], ht, hend⟩

theorem State.Overdue.step_keepsControl (h : s.Overdue j obs) (hstep : step s = .next t) :
    keepsControl s t := by
  obtain ⟨i, -, -, -, hi, -⟩ := h.inv.captureCommand h.capturing
  exact exec_keepsControl hi (step_undisturbed h.undisturbed hi ▸ hstep)

theorem State.Overdue.ends_succ (h : s.Overdue j obs) (hstep : step s = .next t)
    (ht : t.endsCaptureWithin k) : s.endsCaptureWithin (k + 1) := by
  obtain ⟨⟨-, -, -, -, -, -, -, -, -, hmaxe, -⟩, -⟩ := h.step_keepsControl hstep
  obtain ⟨n, u, hn, hrun, hnone, hend⟩ := ht
  exact ⟨n + 1, u, by omega, runFor_succ hstep ▸ hrun, hnone, hmaxe ▸ hend⟩

/-- A step inside the capture that uses `used` of the observations. -/
theorem State.Overdue.next (h : s.Overdue j obs) (used : Nat) (hstep : step s = .next t)
    (hj : t.seq.captureAt = some j') (ht0 : t.t0 = s.t0 := by rfl)
    (htimes : t.env.times = s.env.times.drop used := by simp) : t.Overdue j' (obs - used) := by
  obtain ⟨⟨-, -, -, -, -, htimeout, -, -, -, -, hcfg, -⟩, ⟨hscript, -, hport, -⟩, -⟩ :=
    h.step_keepsControl hstep
  obtain ⟨hscript', hport', hidx⟩ := h.undisturbed
  have hobs := h.scripted
  refine ⟨stepKeepsInvariant s t h.inv hstep,
    ⟨hscript.trans hscript', hport.trans hport', hcfg ▸ hidx⟩, hj, hcfg ▸ h.noPause, ?_, ?_⟩
  · rw [htimes, List.length_drop]
    omega
  · intro x hx
    rw [htimeout, ht0]
    exact h.late x (List.mem_of_mem_drop (htimes ▸ hx))

/-- Up to step 7 the step is `captureStep`'s, and reaching the count leaves the capture (R150, R200). -/
theorem State.Overdue.step_eq (h : s.Overdue j obs) (h1 : 1 ≤ j) (h7 : j ≤ 7) :
    ∃ counted : State → State, (counted s).seq.captureAt = none ∧ (counted s).edgecnt = s.edgecnt
      ∧ step s = captureStep s.pinl s.maxe counted j s := by
  obtain ⟨i, base, b, hcmd, hi, hs⟩ := h.inv.captureCommand h.capturing
  refine ⟨_, ?_, ?_, (step_undisturbed h.undisturbed hi).trans (exec_capture hcmd h1 h7 hs hi)⟩
  · obtain ⟨rfl, -⟩ | ⟨rfl, -⟩ := hcmd <;> simp [hs, Instr.op, Seq.captureAt]
  · split <;> rfl

/-! ### One step after the other, from the loop's last test back to its body -/

/-- Step 5 ends the capture: the observation is past the deadline (R153, R154). -/
theorem State.Overdue.ends_of_deadlineTest (h : s.Overdue 5 1) : s.endsCaptureWithin 1 := by
  obtain ⟨_, -, -, hstep⟩ := h.step_eq (by decide) (by decide)
  have hne : s.env.times ≠ [] := List.ne_nil_of_length_pos h.scripted
  have hlate : deadlineNs s.timeout < elapsedNs s.t0 s.nowAnswer :=
    h.late _ (by rw [State.envAfterNow_times_scripted hne]; simp)
  simp only [captureStep, deadlineTest, hlate, if_true] at hstep
  exact endsCaptureWithin_one hstep rfl (.inl ⟨rfl, rfl⟩)

/-- Step 4 ends the capture with MAXE edges, or goes on to the deadline test (R153). -/
theorem State.Overdue.ends_of_countTest (h : s.Overdue 4 1) : s.endsCaptureWithin 2 := by
  obtain ⟨counted, hnone, hcnt, hstep⟩ := h.step_eq (by decide) (by decide)
  by_cases hmax : s.edgecnt = s.maxe
  · simp only [captureStep, hmax, if_true] at hstep
    exact (endsCaptureWithin_one hstep hnone (.inr (hcnt.trans hmax))).mono (by decide)
  · simp only [captureStep, hmax, if_false] at hstep
    exact h.ends_succ hstep
      (h.next 0 hstep (captureAt_advance h.capturing (by decide))).ends_of_deadlineTest

theorem State.Overdue.ends_of_loopBack (h : s.Overdue 8 1) : s.endsCaptureWithin 3 := by
  obtain ⟨i, base, b, hcmd, hi, hs⟩ := h.inv.captureCommand h.capturing
  obtain ⟨-, -, -, -, -, -, -, -, -, -, hback⟩ := captureMicroSteps _ _ i base s 8 b hcmd hi hs
  have hstep := (step_undisturbed h.undisturbed hi).trans (hback rfl)
  refine h.ends_succ hstep (h.next 0 hstep ?_).ends_of_countTest
  obtain ⟨rfl, rfl⟩ | ⟨rfl, -, rfl⟩ := hcmd <;> rfl

/-- With T_POLL_NS = 0 step 7 makes no observation (R150). -/
theorem State.Overdue.ends_of_noPause (h : s.Overdue 7 1) : s.endsCaptureWithin 4 := by
  obtain ⟨_, -, -, hstep⟩ := h.step_eq (by decide) (by decide)
  simp only [captureStep, h.noPause, lt_irrefl, if_false] at hstep
  exact h.ends_succ hstep (h.next 0 hstep (captureAt_advance h.capturing (by decide))).ends_of_loopBack

/-! ### The body -/

theorem sub_eq_of_within {b : Nat} (hj : s.seq.captureAt = some j) (ht : t.seq = s.seq.within b) :
    t.sub = b := by
  obtain ⟨c, hs | ⟨hs, -⟩⟩ := captureAt_eq_some hj <;> rw [hs] at ht <;>
    exact State.sub_of_run ht

section
variable (hs : s.strategy = false)
include hs

theorem State.Overdue.step_pollBody (h : s.Overdue 6 obs) : step s = pollBody s.pinl s := by
  obtain ⟨_, -, -, hstep⟩ := h.step_eq (by decide) (by decide)
  simpa [captureStep, hs] using hstep

/-- Line 6c (R151). -/
theorem State.Overdue.ends_of_pollLast (h : s.Overdue 6 1) (hb : 2 ≤ s.sub) :
    s.endsCaptureWithin 5 := by
  have hstep := h.step_pollBody hs
  unfold pollBody at hstep
  split at hstep
  case h_3 =>
    exact h.ends_succ hstep (h.next 0 hstep (captureAt_advance h.capturing (by decide))).ends_of_noPause
  all_goals omega

/-- Line 6b (R151): an edge uses one observation. -/
theorem State.Overdue.ends_of_pollEdge (h : s.Overdue 6 2) (hb : s.sub = 1) :
    s.endsCaptureWithin 6 := by
  have hstep := h.step_pollBody hs
  simp only [pollBody, hb] at hstep
  have hcap : (s.seq.within 2).captureAt = some 6 := by simpa using h.capturing
  split at hstep
  · rw [recordEdge_ok (h.inv.room h.capturing (.inr (by omega)))] at hstep
    have ht := h.next 1 hstep hcap
    exact h.ends_succ hstep (ht.ends_of_pollLast hs (sub_eq_of_within h.capturing rfl).ge)
  · have ht := (h.mono one_le_two).next 0 hstep hcap
    exact h.ends_succ hstep (ht.ends_of_pollLast hs (sub_eq_of_within h.capturing rfl).ge)

/-- Line 6a (R151). -/
theorem State.Overdue.ends_of_pollRead (h : s.Overdue 6 2) (hb : s.sub = 0) :
    s.endsCaptureWithin 7 := by
  obtain ⟨-, -, -, hlev, -⟩ := indices_lt h.inv.indices s.pinl
  have hstep := h.step_pollBody hs
  simp only [pollBody, hb] at hstep
  rw [regRead_ok hlev h.undisturbed.2.1] at hstep
  have ht := h.next 0 hstep (by simpa using h.capturing)
  exact h.ends_succ hstep (ht.ends_of_pollEdge hs (sub_eq_of_within h.capturing rfl))

end

section
variable (hs : s.strategy = true)
include hs

theorem State.Overdue.step_flagBody (h : s.Overdue 6 obs) : step s = flagBody s.pinl s := by
  obtain ⟨_, -, -, hstep⟩ := h.step_eq (by decide) (by decide)
  simpa [captureStep, hs] using hstep

/-- The timestamp of line 6b (R152) uses one observation. -/
theorem State.Overdue.ends_of_flagEdge (h : s.Overdue 6 2) (hb : 2 ≤ s.sub) :
    s.endsCaptureWithin 5 := by
  have hstep := h.step_flagBody hs
  unfold flagBody at hstep
  split at hstep
  case h_3 =>
    rw [recordEdge_ok (h.inv.room h.capturing (.inl hs))] at hstep
    have ht := h.next 1 hstep (captureAt_advance h.capturing (by decide))
    exact h.ends_succ hstep ht.ends_of_noPause
  all_goals omega

/-- The clearing write of line 6b where the flag is set (R152). -/
theorem State.Overdue.ends_of_flagTest (h : s.Overdue 6 2) (hb : s.sub = 1) :
    s.endsCaptureWithin 6 := by
  obtain ⟨-, -, -, -, heds, -⟩ := indices_lt h.inv.indices s.pinl
  have hstep := h.step_flagBody hs
  simp only [flagBody, hb] at hstep
  split at hstep
  · rw [regWrite_ok heds h.undisturbed.2.1] at hstep
    have ht := h.next 0 hstep (by simpa using h.capturing)
    exact h.ends_succ hstep (ht.ends_of_flagEdge hs (sub_eq_of_within h.capturing rfl).ge)
  · have ht := (h.mono one_le_two).next 0 hstep (captureAt_advance h.capturing (by decide))
    exact (h.ends_succ hstep ht.ends_of_noPause).mono (by decide)

/-- Line 6a (R152). -/
theorem State.Overdue.ends_of_flagRead (h : s.Overdue 6 2) (hb : s.sub = 0) :
    s.endsCaptureWithin 7 := by
  obtain ⟨-, -, -, -, heds, -⟩ := indices_lt h.inv.indices s.pinl
  have hstep := h.step_flagBody hs
  simp only [flagBody, hb] at hstep
  rw [regRead_ok heds h.undisturbed.2.1] at hstep
  have ht := h.next 0 hstep (by simpa using h.capturing)
  exact h.ends_succ hstep (ht.ends_of_flagTest hs (sub_eq_of_within h.capturing rfl))

end

/-- From every line of either body (R151, R152). -/
theorem State.Overdue.ends_of_body (h : s.Overdue 6 2) : s.endsCaptureWithin 7 := by
  have hb : s.sub = 0 ∨ s.sub = 1 ∨ 2 ≤ s.sub := by omega
  cases hs : s.strategy with
  | false =>
    obtain hb | hb | hb := hb
    · exact h.ends_of_pollRead hs hb
    · exact (h.ends_of_pollEdge hs hb).mono (by decide)
    · exact ((h.mono one_le_two).ends_of_pollLast hs hb).mono (by decide)
  | true =>
    obtain hb | hb | hb := hb
    · exact h.ends_of_flagRead hs hb
    · exact (h.ends_of_flagTest hs hb).mono (by decide)
    · exact (h.ends_of_flagEdge hs hb).mono (by decide)

end

/-- Settles O32: the loop is followed from its deadline test, one step away from the end, back to the first
line of its body, seven steps away. -/
theorem captureEndsWithinOneIteration : Obligations.CaptureEndsWithinOneIteration := by
  unfold Obligations.CaptureEndsWithinOneIteration
  intro s j hinv hu hj h4 hpoll hobs hlate
  have h : s.Overdue j 2 := ⟨hinv, hu, hj, hpoll, hobs, hlate⟩
  have h1 : s.Overdue j 1 := h.mono one_le_two
  have h8 : j ≤ 8 := hinv.captureAt_le hj
  change s.endsCaptureWithin 7
  interval_cases j
  · exact h1.ends_of_countTest.mono (by decide)
  · exact h1.ends_of_deadlineTest.mono (by decide)
  · exact h.ends_of_body
  · exact h1.ends_of_noPause.mono (by decide)
  · exact h1.ends_of_loopBack.mono (by decide)

end Sys2Proof.Machine
end

section
/-! PROOF. The decoder with all 42 edges and with fewer (R170, R174, R200). -/

namespace Sys2Proof.Machine

/-- With fewer than 42 edges nothing is decoded, whatever success would do (R174). -/
theorem decodeBody_short {s : State} (decoded : State → State) (h : s.edgecnt.toNat < 42) :
    decodeBody decoded s = .next (s.clearPayload.clearResult.raiseErr .insufficientEdges) :=
  if_pos h

/-- With 42 edges the payload is decoded (R170). -/
theorem decodeBody_full {s : State} (decoded : State → State) (h : s.edgecnt = 42#6) :
    decodeBody decoded s = .next (decoded
      { s.clearResult with pvalid := true, payload := frameDecode s.cfg.threshUs s.ts }) :=
  if_neg (by simp [h])

/-- DEC at its one micro-step is the decoder's body (R170). -/
theorem exec_dec {s : State} {b : Nat} (hi : s.inFlight = some .dec) (hs : s.seq = .run .dec 1 b) :
    exec .dec s = decodeBody State.complete s :=
  (exec_inFlight hs hi).trans rfl

/-- Micro-step 23 of ACQ is the decoder's body (R200). -/
theorem exec_acq_decode {p : Pin} {s : State} {b : Nat} (hi : s.inFlight = some (.acq p))
    (hs : s.seq = .run .acq 23 b) : exec (.acq p) s = decodeBody (State.goto 24) s :=
  (exec_inFlight hs hi).trans rfl

/-- Settles O35: DEC completes after the decoder's body, and ACQ goes on to micro-step 24. -/
theorem decodeDelivers : Obligations.DecodeDelivers := by
  unfold Obligations.DecodeDelivers
  intro s b hcnt
  refine ⟨fun hi hs => ?_, fun p hi hs => ?_⟩
  · rw [exec_dec hi hs, decodeBody_full _ hcnt]
    rfl
  · rw [exec_acq_decode hi hs, decodeBody_full _ hcnt]
    simp [State.goto, State.clearResult, hs, Seq.goto]

/-- Settles O36: DEC raises InsufficientEdges, and the bound is part of the invariant, which every step
keeps. -/
theorem decodeNeedsAllEdges : Obligations.DecodeNeedsAllEdges := by
  unfold Obligations.DecodeNeedsAllEdges
  refine ⟨fun s b hcnt hi hs => ?_, fun s t hinv hstep => ?_⟩
  · rw [exec_dec hi hs, decodeBody_short _ hcnt]
    rfl
  · obtain ⟨hle, -⟩ := (stepKeepsInvariant s t hinv hstep).edges
    exact hle

end Sys2Proof.Machine
end

section
/-! PROOF. The checksum validator in numbers, FIN and the finalize stage of ACQ, and the host's Fahrenheit
relation (R185 to R191, R194, R200). -/

namespace Sys2Proof.Machine

/-! ### The fields of a Reading -/

/-- Two bytes side by side, where the width has room for them. -/
theorem toNat_bytePair {w : Nat} {hi lo : Byte} (hw : 8 ≤ w) (hroom : hi.toNat * 256 < 2 ^ w) :
    (hi.setWidth w <<< 8 ||| lo.setWidth w).toNat = hi.toNat * 256 + lo.toNat := by
  have hhi : hi.toNat <<< 8 = hi.toNat * 256 := Nat.shiftLeft_eq _ 8
  simp only [BitVec.toNat_or, BitVec.toNat_shiftLeft, BitVec.toNat_setWidth_of_le hw]
  rw [hhi, Nat.mod_eq_of_lt hroom, ← hhi, Nat.shiftLeft_add_eq_or_of_lt lo.isLt]

theorem toNat_and_0x7F (x : Byte) : (x &&& 0x7F#8).toNat = x.toNat % 128 :=
  Nat.and_two_pow_sub_one_eq_mod x.toNat 7

theorem humidityField_toNat (b : Vector Byte 5) :
    (humidityField b).toNat = b[4].toNat * 256 + b[3].toNat :=
  toNat_bytePair (by decide) (by omega)

theorem magnitudeField_toNat (b : Vector Byte 5) :
    (magnitudeField b).toNat = b[2].toNat % 128 * 256 + b[1].toNat := by
  have hpair := toNat_bytePair (w := 15) (hi := b[2] &&& 0x7F#8) (lo := b[1]) (by decide)
  rw [toNat_and_0x7F] at hpair
  exact hpair (by omega)

/-- SIGNMODE = 0: the byte's top bit (R189). -/
theorem signFlag_false_iff (x : Byte) : signFlag x false = true ↔ 128 ≤ x.toNat := by
  change x.getLsbD 7 = true ↔ _
  rw [← BitVec.msb_eq_getLsbD_last x, BitVec.msb_eq_true_iff_two_mul_ge]
  omega

/-- SIGNMODE = 1: the byte's other seven bits, not all 0 (R189). -/
theorem signFlag_true_iff (x : Byte) : signFlag x true = true ↔ x.toNat % 128 ≠ 0 := by
  simp [signFlag, ← toNat_and_0x7F, BitVec.toNat_eq]

/-! ### `finalize` -/

theorem checksumOk_iff (b : Vector Byte 5) : checksumOk b = true ↔
    b[0].toNat = (b[1].toNat + b[2].toNat + b[3].toNat + b[4].toNat) % 256 :=
  decide_eq_true_iff

/-- R186, R191: a mismatch is the one reason not to answer. -/
theorem finalize_eq_none_iff (b : Vector Byte 5) (mode : Bool) : finalize b mode = none ↔
    b[0].toNat ≠ (b[1].toNat + b[2].toNat + b[3].toNat + b[4].toNat) % 256 := by
  rw [ne_eq, ← checksumOk_iff]
  simp [finalize]

theorem finalize_eq_some {b : Vector Byte 5} {mode : Bool} {r : Reading}
    (h : finalize b mode = some r) :
    r = ⟨humidityField b, magnitudeField b, signFlag b[2] mode⟩ := by
  unfold finalize at h
  split at h
  · exact (Option.some.inj h).symm
  · cases h

/-- Settles O42: the checksum test and the fields, one lemma each; TMAG is at least 256 where its upper seven
bits are not all 0. -/
theorem finalizeExactly : Obligations.FinalizeExactly := by
  unfold Obligations.FinalizeExactly
  intro b mode
  refine ⟨finalize_eq_none_iff b mode, fun r hr => ?_⟩
  obtain rfl := finalize_eq_some hr
  refine ⟨humidityField_toNat b, magnitudeField_toNat b, ?_, ?_⟩
  · rintro rfl
    exact signFlag_false_iff b[2]
  · rintro rfl
    rw [signFlag_true_iff, magnitudeField_toNat]
    omega

/-! ### FIN and the finalize stage of ACQ -/

/-- FIN at its one micro-step, and ACQ at micro-step 24, are the validator's body (R185, R200). -/
theorem exec_finalize {i : Instr} {s : State} {k b : Nat}
    (h : (i = .fin ∧ k = 1) ∨ ((∃ p, i = .acq p) ∧ k = 24)) (hi : s.inFlight = some i)
    (hs : s.seq = .run i.op k b) : exec i s = finalizeBody s := by
  rw [exec_inFlight hs hi]
  obtain ⟨rfl, rfl⟩ | ⟨⟨p, rfl⟩, rfl⟩ := h <;> rfl

theorem finalizeBody_noPayload {s : State} (h : s.pvalid = false) :
    finalizeBody s = .next (s.clearResult.raiseErr .noPayload) :=
  if_pos h

theorem finalizeBody_mismatch {s : State} (h : s.pvalid = true)
    (hnone : finalize s.payload s.signmode = none) :
    finalizeBody s = .next (s.clearResult.raiseErr .checksumMismatch) := by
  simp [finalizeBody, h, hnone]

theorem finalizeBody_delivers {s : State} {r : Reading} (h : s.pvalid = true)
    (hsome : finalize s.payload s.signmode = some r) :
    finalizeBody s =
      .next { s with rvalid := true, hum := r.hum, tmag := r.tmag, neg := r.neg }.complete := by
  simp [finalizeBody, h, hsome]

/-- Settles O43: the validator's body with a payload it accepts. -/
theorem finalizeDelivers : Obligations.FinalizeDelivers := by
  unfold Obligations.FinalizeDelivers
  intro i s k b r h hi hs hp hsome
  rw [exec_finalize h hi hs, finalizeBody_delivers hp hsome]
  rfl

/-- Settles O44: the validator's body without a payload, and with one it rejects. -/
theorem finalizeFails : Obligations.FinalizeFails := by
  unfold Obligations.FinalizeFails
  refine fun s b => ⟨fun hi hs hp => ?_, fun i k h hi hs hp hne => ?_⟩
  · rw [exec_finalize (.inl ⟨rfl, rfl⟩) hi hs, finalizeBody_noPayload hp]
    rfl
  · rw [exec_finalize h hi hs, finalizeBody_mismatch hp ((finalize_eq_none_iff _ _).mpr hne)]
    rfl

/-! ### The host's unit relation -/

/-- Settles O46: 100 * 9 / (10 * 5) is 18, whichever the sign. -/
theorem fahrenheitRelation : Obligations.FahrenheitRelation := by
  unfold Obligations.FahrenheitRelation
  intro r
  cases hneg : r.neg <;>
    simp only [Reading.fahrenheitHundredths, Reading.fahrenheit, Reading.celsius, hneg] <;>
    push_cast <;> ring

end Sys2Proof.Machine
end

section
/-! PROOF. ACQ as its four stages: each stage's micro-steps do not depend on where SEQ has them, and with 42
edges captured the decoder and the validator end ACQ (R200 to R202). -/

namespace Sys2Proof.Machine

/-! ### A state of INIT or CAPT with SEQ at ACQ's position for it -/

/-- The state with SEQ at ACQ's position for it, `base` micro-steps further on (R200). -/
def State.inAcq (base : Nat) (s : State) : State := { s with seq := s.seq.inAcq base }

/-- Taken to the stage command's position and placed back, ACQ's state is as it was. -/
theorem inAcq_of_run {s : State} {op : Op} {k b base : Nat} (hs : s.seq = .run .acq (k + base) b) :
    ({ s with seq := .run op k b } : State).inAcq base = s := by
  simp [State.inAcq, Seq.inAcq, ← hs]

@[simp] theorem sub_inAcq (base : Nat) (s : State) : (s.inAcq base).sub = s.sub := by
  cases hs : s.seq <;> simp [State.sub, State.inAcq, Seq.inAcq, hs]

/-- A way to move SEQ that is the same from ACQ's position as from the stage command's. -/
def MovesInAcq (base : Nat) (move : State → State) : Prop :=
  ∀ s : State, move (s.inAcq base) = (move s).inAcq base

theorem movesInAcq_advance (base : Nat) : MovesInAcq base State.advance := by
  intro s
  cases hs : s.seq <;>
    simp [State.advance, State.inAcq, Seq.inAcq, Seq.advance, hs, Nat.add_right_comm]

theorem movesInAcq_within (base b : Nat) : MovesInAcq base (State.within b) := by
  intro s
  cases hs : s.seq <;> simp [State.within, State.inAcq, Seq.inAcq, Seq.within, hs]

/-! ### The operations of the stages do not depend on the position -/

section
variable {base : Nat} {move : State → State} {s t : State} {p : Pin}

theorem stray_inAcq (h : stray s = .next t) : stray (s.inAcq base) = .next (t.inAcq base) := by
  have hs : s.seq = .idle := by
    by_contra hs
    exact stray_ne_next hs h
  simp only [stray, hs] at h
  cases h
  simp [stray, State.inAcq, Seq.inAcq, hs]

theorem wait_inAcq {d : Nat} (h : wait d s = .next t) :
    wait d (s.inAcq base) = .next (t.inAcq base) := by
  obtain ⟨h0, rfl⟩ | ⟨h0, hd, rfl⟩ | ⟨h0, hd, rfl⟩ := wait_next h
  · rw [← movesInAcq_within]
    exact wait_begin ((sub_inAcq base s).trans h0)
  · rw [← movesInAcq_advance, wait_poll ((sub_inAcq base s).trans_ne h0)]
    exact congrArg _ (if_pos hd)
  · rw [wait_poll ((sub_inAcq base s).trans_ne h0)]
    exact congrArg _ (if_neg (not_le.mpr hd))

theorem regRead_inAcq {idx : Nat} (hm : MovesInAcq base move) (h : regRead idx move s = .next t) :
    regRead idx move (s.inAcq base) = .next (t.inAcq base) := by
  obtain ⟨hidx, ⟨hp, rfl⟩ | ⟨hp, rfl⟩⟩ := regRead_next h
  · exact regRead_hangs hidx hp
  · rw [← hm]
    exact regRead_ok hidx hp

theorem regWrite_inAcq {idx : Nat} {v : Word} (hm : MovesInAcq base move)
    (h : regWrite idx v move s = .next t) :
    regWrite idx v move (s.inAcq base) = .next (t.inAcq base) := by
  obtain ⟨hidx, ⟨hp, rfl⟩ | ⟨hp, rfl⟩⟩ := regWrite_next h
  · exact regWrite_hangs hidx hp
  · rw [← hm]
    exact regWrite_ok hidx hp

theorem recordEdge_inAcq (hm : MovesInAcq base move) (h : recordEdge move s = .next t) :
    recordEdge move (s.inAcq base) = .next (t.inAcq base) := by
  obtain ⟨hc, rfl⟩ := recordEdge_next h
  rw [← hm]
  exact recordEdge_ok (s := s.inAcq base) hc

/-! ### The stages -/

theorem dirRead_inAcq (h : dirRead p s = .next t) : dirRead p (s.inAcq base) = .next (t.inAcq base) :=
  regRead_inAcq (movesInAcq_advance base) h

theorem dirWrite_inAcq {d : Dir} (h : dirWrite p d s = .next t) :
    dirWrite p d (s.inAcq base) = .next (t.inAcq base) :=
  regWrite_inAcq (movesInAcq_advance base) h

theorem levelWrite_inAcq {l : Level} (h : levelWrite p l s = .next t) :
    levelWrite p l (s.inAcq base) = .next (t.inAcq base) := by
  cases l <;> exact regWrite_inAcq (movesInAcq_advance base) h

theorem pullStep_inAcq {k : Nat} (h : pullStep p k s = .next t) :
    pullStep p k (s.inAcq base) = .next (t.inAcq base) := by
  unfold pullStep at h ⊢
  split at h
  case h_2 | h_4 => exact wait_inAcq h
  case h_7 => exact stray_inAcq h
  all_goals exact regWrite_inAcq (movesInAcq_advance base) h

theorem initiateStep_inAcq {k : Nat} (h : initiateStep p k s = .next t) :
    initiateStep p k (s.inAcq base) = .next (t.inAcq base) := by
  unfold initiateStep at h ⊢
  split at h
  case h_1 | h_4 | h_6 => exact levelWrite_inAcq h
  case h_2 | h_7 => exact dirRead_inAcq h
  case h_3 | h_8 => exact dirWrite_inAcq h
  case h_5 => exact wait_inAcq h
  case h_9 => exact pullStep_inAcq h

theorem deadlineTest_inAcq (h : deadlineTest s = .next t) :
    deadlineTest (s.inAcq base) = .next (t.inAcq base) := by
  unfold deadlineTest at h
  split at h <;> cases h
  · exact if_pos ‹_›
  · rw [← movesInAcq_advance]
    exact if_neg ‹_›

theorem pollBody_inAcq (h : pollBody p s = .next t) :
    pollBody p (s.inAcq base) = .next (t.inAcq base) := by
  unfold pollBody at h ⊢
  rw [sub_inAcq]
  split at h
  · exact regRead_inAcq (movesInAcq_within base 1) h
  · split at h
    · exact (if_pos ‹_›).trans (recordEdge_inAcq (movesInAcq_within base 2) h)
    · cases h
      rw [← movesInAcq_within]
      exact if_neg ‹_›
  · cases h
    rw [← movesInAcq_advance]
    rfl

theorem flagBody_inAcq (h : flagBody p s = .next t) :
    flagBody p (s.inAcq base) = .next (t.inAcq base) := by
  unfold flagBody at h ⊢
  rw [sub_inAcq]
  split at h
  · exact regRead_inAcq (movesInAcq_within base 1) h
  · split at h
    · exact (if_pos ‹_›).trans (regWrite_inAcq (movesInAcq_within base 2) h)
    · cases h
      rw [← movesInAcq_advance]
      exact if_neg ‹_›
  · exact recordEdge_inAcq (movesInAcq_advance base) h

/-- Short of the count, a capture step does not depend on what reaching it would do (R150). -/
theorem captureStep_inAcq {n : BitVec 6} {counted counted' : State → State} {k : Nat}
    (h : captureStep p n counted k s = .next t) (hshort : ¬(k = 4 ∧ s.edgecnt = n)) :
    captureStep p n counted' k (s.inAcq base) = .next (t.inAcq base) := by
  unfold captureStep at h ⊢
  split at h
  case h_1 | h_2 | h_3 =>
    cases h
    rw [← movesInAcq_advance]
    rfl
  case h_4 =>
    have hcnt : ¬s.edgecnt = n := fun hcnt => hshort ⟨rfl, hcnt⟩
    rw [if_neg hcnt] at h
    cases h
    rw [← movesInAcq_advance]
    exact if_neg hcnt
  case h_5 => exact deadlineTest_inAcq h
  case h_6 =>
    split at h
    · exact (if_pos ‹_›).trans (flagBody_inAcq h)
    · exact (if_neg ‹_›).trans (pollBody_inAcq h)
  case h_7 =>
    split at h
    · exact (if_pos ‹_›).trans (wait_inAcq h)
    · cases h
      rw [← movesInAcq_advance]
      exact if_neg ‹_›
  case h_8 => exact stray_inAcq h

/-- The validator ends the command, so its position does not matter (R185). -/
theorem finalizeBody_seq (s : State) (q : Seq) :
    finalizeBody { s with seq := q } = finalizeBody s := rfl

end

/-! ### Each micro-step of ACQ -/

/-- Step 8 of a capture goes back to step 4 (R150). -/
theorem exec_captureBack {p : Pin} {n : BitVec 6} {i : Instr} {base b : Nat} {s : State}
    (h : (i = .capt p n ∧ base = 0) ∨ (i = .acq p ∧ n = 42#6 ∧ base = 14))
    (hi : s.inFlight = some i) (hs : s.seq = .run i.op (base + 8) b) :
    exec i s = .next { s with seq := .run i.op (base + 4) 0 } := by
  obtain ⟨-, -, -, -, -, -, -, -, -, -, hback⟩ := captureMicroSteps p n i base s 8 b h hi hs
  exact hback rfl

section
variable {p : Pin} {s t : State} {k b : Nat} (hi : s.inFlight = some (.acq p))
include hi

/-- With 42 edges ACQ goes on to its micro-step 23 (R200). -/
theorem exec_acq_counted (hs : s.seq = .run .acq 18 b) (hcnt : s.edgecnt = 42#6) :
    exec (.acq p) s = .next { s with seq := .run .acq 23 0 } := by
  obtain ⟨-, -, -, -, hcount, -⟩ :=
    captureMicroSteps p 42#6 (.acq p) 14 s 4 b (.inr ⟨rfl, rfl, rfl⟩) hi hs
  exact hcount rfl hcnt rfl

/-- Micro-steps 1 to 14 (R200). -/
theorem exec_acq_of_init (hk : k ≤ 14) (hs : s.seq = .run .acq k b)
    (h : exec (.init p) { s with seq := .run .init k b } = .next t) :
    exec (.acq p) s = .next (t.inAcq 0) := by
  have hinit : ({ s with seq := .run .init k b } : State).inFlight = some (.init p) := by
    simp [State.inFlight, Op.instr, pin_of_inFlight (.inr rfl) hi]
  rw [exec_initiate (.inl rfl) hk rfl hinit] at h
  have hplaced := initiateStep_inAcq (base := 0) h
  rw [inAcq_of_run hs] at hplaced
  exact (exec_initiate (.inr rfl) hk hs hi).trans hplaced

/-- Micro-steps 15 to 22; where the count is reached, the next is 23 (R200, R201). -/
theorem exec_acq_of_capt (hm : s.maxe = 42#6) (h1 : 1 ≤ k) (h8 : k ≤ 8)
    (hs : s.seq = .run .acq (k + 14) b)
    (h : exec (.capt p 42#6) { s with seq := .run .capt k b } = .next t) :
    exec (.acq p) s = .next
      (if k = 4 ∧ s.edgecnt = 42#6 then { s with seq := .run .acq 23 0 } else t.inAcq 14) := by
  have hcapt : ({ s with seq := .run .capt k b } : State).inFlight = some (.capt p 42#6) := by
    simp [State.inFlight, Op.instr, pin_of_inFlight (.inr rfl) hi, hm]
  split
  next hreached =>
    obtain ⟨rfl, hcnt⟩ := hreached
    exact exec_acq_counted hi hs hcnt
  next hshort =>
    obtain rfl | h7 : k = 8 ∨ k ≤ 7 := by omega
    · rw [exec_captureBack (.inl ⟨rfl, rfl⟩) hcapt rfl] at h
      cases h
      exact exec_captureBack (.inr ⟨rfl, rfl, rfl⟩) hi hs
    · have hpos : s.seq = .run .acq (14 + k) b := by rw [hs, Nat.add_comm]
      have hstage := exec_capture (.inl ⟨rfl, rfl⟩) h1 h7 (by rw [Nat.zero_add]; rfl) hcapt
      rw [hstage] at h
      have hplaced := captureStep_inAcq (base := 14) (counted' := State.goto 23) h hshort
      rw [inAcq_of_run hs] at hplaced
      exact (exec_capture (.inr ⟨rfl, rfl, rfl⟩) h1 h7 hpos hi).trans hplaced

/-- Micro-step 23 (R200, R201). -/
theorem exec_acq_of_dec (hs : s.seq = .run .acq 23 b) (hcnt : s.edgecnt = 42#6)
    (h : exec .dec { s with seq := .run .dec 1 b } = .next t) :
    exec (.acq p) s = .next { t with seq := .run .acq 24 0, done := s.done } := by
  rw [(decodeDelivers { s with seq := .run .dec 1 b } b hcnt).1 rfl rfl] at h
  cases h
  exact (decodeDelivers s b hcnt).2 p hi hs

/-- Micro-step 24 (R200). -/
theorem exec_acq_of_fin (hs : s.seq = .run .acq 24 b)
    (h : exec .fin { s with seq := .run .fin 1 b } = .next t) : exec (.acq p) s = .next t := by
  rw [exec_finalize (.inl ⟨rfl, rfl⟩) rfl rfl, finalizeBody_seq] at h
  exact (exec_finalize (.inr ⟨⟨p, rfl⟩, rfl⟩) hi hs).trans h

end

/-- Settles O47: stage by stage. -/
theorem acqRunsTheStages : Obligations.AcqRunsTheStages := by
  unfold Obligations.AcqRunsTheStages
  exact fun p s t k b hi hm =>
    ⟨fun _ h14 => exec_acq_of_init hi h14, fun h1 h8 => exec_acq_of_capt hi hm h1 h8,
      exec_acq_of_dec hi, exec_acq_of_fin hi⟩

/-! ### The end of ACQ -/

/-- What the decode stage of ACQ leaves (R200). -/
def State.afterAcqDecode (s : State) : State :=
  { s with
    pvalid := true, payload := frameDecode s.cfg.threshUs s.ts
    rvalid := false, hum := 0#16, tmag := 0#15, neg := false, seq := .run .acq 24 0 }

section
variable {p : Pin} {s : State} {b : Nat}

theorem State.ReadyAt.afterAcqDecode (h : s.ReadyAt (.acq p) 23) :
    s.afterAcqDecode.ReadyAt (.acq p) 24 :=
  ⟨h.undisturbed, h.inFlight_of_run rfl rfl rfl rfl, rfl⟩

/-- With the count reached, ACQ goes to its micro-step 23 and decodes (R200). -/
theorem acqDecode_run (hu : s.undisturbed) (hi : s.inFlight = some (.acq p))
    (hs : s.seq = .run .acq 18 b) (hcnt : s.edgecnt = 42#6) :
    s.afterAcqDecode.ReadyAt (.acq p) 24 ∧ runFor 2 s = .next s.afterAcqDecode := by
  have hr : ({ s with seq := .run .acq 23 0 } : State).ReadyAt (.acq p) 23 :=
    ⟨hu, (State.inFlight_of_run hs).symm.trans hi, rfl⟩
  have hdec := (decodeDelivers { s with seq := .run .acq 23 0 } 0 hcnt).2 p hr.inFlight hr.seq
  refine ⟨hr.afterAcqDecode, ?_⟩
  rw [runFor_succ ((step_undisturbed hu hi).trans (exec_acq_counted hi hs hcnt))]
  exact hr.run_one hdec

end

/-- Settles O48: the count test and the decoder, then the validator with its Reading or without. -/
theorem acqDeliversReading : Obligations.AcqDeliversReading := by
  unfold Obligations.AcqDeliversReading
  intro p s b hu hi hs hcnt
  obtain ⟨hr, hrun⟩ := acqDecode_run hu hi hs hcnt
  have hexec := exec_finalize (.inr ⟨⟨p, rfl⟩, rfl⟩) hr.inFlight hr.seq
  refine ⟨fun r hsome => ?_, fun hnone => ?_⟩
  · exact runFor_trans hrun (hr.run_one (hexec.trans (finalizeBody_delivers rfl hsome)))
  · exact runFor_trans hrun (hr.run_one (hexec.trans (finalizeBody_mismatch rfl hnone)))

end Sys2Proof.Machine
end

section
/-! PROOF. The surface accesses while the port hangs, and the idle engine (R224, U12, R228). -/

namespace Sys2Proof.Machine

/-! ### The accesses while the port hangs -/

/-- No surface access of the ENGINE completes, and the surface indices exist (U12, R69; log entry 14). -/
def State.portHung (s : State) : Prop := s.env.portHangs = true ∧ s.cfg.indicesLegal = true

/-- The writes of the latch sequence are among its six micro-steps (R121). -/
theorem latchWrite_le {k : Nat} (hk : k ∈ [1, 3, 5, 6]) : k ≤ 6 := by
  simp only [List.mem_cons, List.not_mem_nil, or_false] at hk
  omega

section
variable {s : State} (h : s.portHung) (p : Pin)
include h

theorem dirRead_hangs : dirRead p s = .next s := regRead_hangs (indices_lt h.2 p).1 h.1

theorem dirWrite_hangs (d : Dir) : dirWrite p d s = .next s := regWrite_hangs (indices_lt h.2 p).1 h.1

theorem levelWrite_hangs (l : Level) : levelWrite p l s = .next s := by
  obtain ⟨-, hset, hclr, -⟩ := indices_lt h.2 p
  cases l
  · exact regWrite_hangs hclr h.1
  · exact regWrite_hangs hset h.1

/-- The four writes of the latch sequence (R121). -/
theorem pullStep_hangs {k : Nat} (hk : k ∈ [1, 3, 5, 6]) : pullStep p k s = .next s := by
  obtain ⟨-, -, -, -, -, hpud, hclk⟩ := indices_lt h.2 p
  simp only [List.mem_cons, List.not_mem_nil, or_false] at hk
  obtain rfl | rfl | rfl | rfl := hk
  · exact regWrite_hangs hpud h.1
  · exact regWrite_hangs hclk h.1
  · exact regWrite_hangs hpud h.1
  · exact regWrite_hangs hclk h.1

/-- The latch sequence's writes, then the accesses of the level and direction changes (R140). -/
theorem initiateStep_hangs {k : Nat} (hk : k ∈ [1, 3, 5, 6, 7, 8, 9, 10, 12, 13, 14]) :
    initiateStep p k s = .next s := by
  obtain hpull | hk := List.mem_append (s := [1, 3, 5, 6]) |>.mp hk
  · rw [initiateStep_eq_pullStep p (latchWrite_le hpull)]
    exact pullStep_hangs h p hpull
  · simp only [List.mem_cons, List.not_mem_nil, or_false] at hk
    obtain rfl | rfl | rfl | rfl | rfl | rfl | rfl := hk
    · exact levelWrite_hangs h p .high
    · exact dirRead_hangs h p
    · exact dirWrite_hangs h p .output
    · exact levelWrite_hangs h p .low
    · exact levelWrite_hangs h p .high
    · exact dirRead_hangs h p
    · exact dirWrite_hangs h p .input

/-- The read of the polling body (R151). -/
theorem pollBody_hangs (hsub : s.sub = 0) : pollBody p s = .next s := by
  obtain ⟨-, -, -, hlev, -⟩ := indices_lt h.2 p
  simp only [pollBody, hsub]
  exact regRead_hangs hlev h.1

/-- The read of the event-flag body, and its clearing write where the pin's flag is set (R152). -/
theorem flagBody_hangs (haccess : s.sub = 0 ∨ (s.sub = 1 ∧ pinBit s.tmp p = true)) :
    flagBody p s = .next s := by
  obtain ⟨-, -, -, -, heds, -⟩ := indices_lt h.2 p
  obtain hsub | ⟨hsub, hflag⟩ := haccess
  · simp only [flagBody, hsub]
    exact regRead_hangs heds h.1
  · simp only [flagBody, hsub, hflag, if_true]
    exact regWrite_hangs heds h.1

/-- The accesses of the capture body, CAPT's or ACQ's, under either strategy (R151, R152). -/
theorem exec_captureBody_hangs {p : Pin} {n : BitVec 6} {i : Instr} {base b : Nat}
    (hcap : (i = .capt p n ∧ base = 0) ∨ (i = .acq p ∧ n = 42#6 ∧ base = 14))
    (hi : s.inFlight = some i) (hs : s.seq = .run i.op (base + 6) b)
    (haccess : b = 0 ∨ (b = 1 ∧ s.strategy = true ∧ pinBit s.tmp p = true)) :
    exec i s = .next s := by
  rw [← State.sub_of_run hs] at haccess
  cases hstrategy : s.strategy with
  | false =>
    have hsub : s.sub = 0 := by simpa [hstrategy] using haccess
    exact (exec_pollBody hcap hi hs hstrategy).trans (pollBody_hangs h p hsub)
  | true =>
    have hread_or_clear : s.sub = 0 ∨ (s.sub = 1 ∧ pinBit s.tmp p = true) := by
      simpa [hstrategy] using haccess
    exact (exec_flagBody hcap hi hs hstrategy).trans (flagBody_hangs h p hread_or_clear)

end

/-- Settles O60: the access at each position is answered with the same state, and every position is BUSY. -/
theorem hangingAccessStaysPut : Obligations.HangingAccessStaysPut := by
  unfold Obligations.HangingAccessStaysPut
  intro i s k b haccess hp hidx hi hs
  have h : s.portHung := ⟨hp, hidx⟩
  have hbody : exec i s = commandBody i k s := exec_inFlight hs hi
  refine ⟨?_, (State.busy_iff s).mpr (by simp [hs])⟩
  obtain ⟨p, rfl, hk⟩ | ⟨p, d, rfl, hk⟩ | ⟨p, l, rfl, rfl⟩ | ⟨p, rfl, rfl⟩ | ⟨p, hinit, hk⟩
    | ⟨p, ⟨n, rfl, rfl⟩ | ⟨rfl, rfl⟩, hb⟩ := haccess
  · exact (exec_pullSequence (.inl rfl) (latchWrite_le hk) hs hi).trans (pullStep_hangs h p hk)
  · simp only [List.mem_cons, List.not_mem_nil, or_false] at hk
    obtain rfl | rfl := hk
    · exact hbody.trans (dirRead_hangs h p)
    · exact hbody.trans (dirWrite_hangs h p d)
  · exact hbody.trans (levelWrite_hangs h p l)
  · obtain ⟨-, -, -, hlev, -⟩ := indices_lt hidx p
    exact hbody.trans (regRead_hangs hlev hp)
  · have hk14 : k ≤ 14 := by
      simp only [List.mem_cons, List.not_mem_nil, or_false] at hk
      omega
    exact (exec_initiate hinit hk14 hs hi).trans (initiateStep_hangs h p hk)
  · exact exec_captureBody_hangs h (base := 0) (.inl ⟨rfl, rfl⟩) hi hs hb
  · exact exec_captureBody_hangs h (base := 14) (.inr ⟨rfl, rfl, rfl⟩) hi hs hb

/-! ### The idle engine -/

theorem engineTurn_idle {s : State} (hs : s.seq = .idle) : engineTurn s = .settled s := by
  simp [engineTurn, State.inFlight_idle hs]

/-- Settles O13: with no command in flight the ENGINE's turn is settled in the state it found. -/
theorem idleEngineKeepsState : Obligations.IdleEngineKeepsState := by
  unfold Obligations.IdleEngineKeepsState
  refine ⟨fun s hm hs => step_idle hm hs, fun s rest hm hs => ?_⟩
  simp only [step, fetch_scripted hm, perform, engineTurn_idle (s := s.withScript rest) hs]

end Sys2Proof.Machine
end

section
/-! PROOF. What the reset event leaves of the surface (R240, R241, R242). -/

namespace Sys2Proof.Machine

/-! ### A latch sequence cut short -/

@[simp] theorem State.cutPull_reads (s : State) : s.cutPull.env.reads = s.env.reads := by
  unfold State.cutPull
  split <;> rfl

theorem State.cutPull_of_not_inPullSequence {s : State} (h : s.inPullSequence = false) :
    s.cutPull = s := by
  simp [State.cutPull, h]

/-- Cutting a latch sequence short touches the pull configuration of the command's pin and nothing else of
the surface (U1, R242). -/
theorem State.cutPull_surf (s : State) :
    ∃ pull : Vector Word 32, s.cutPull.surf = { s.surf with pull := pull }
      ∧ ∀ q : Fin 32, q.val ≠ s.pinl.toNat → pull[q] = s.surf.pull[q] := by
  unfold State.cutPull
  split
  · refine ⟨_, rfl, fun q hq => ?_⟩
    simp [Vector.getElem_setIfInBounds_ne, Ne.symm hq]
  · exact ⟨_, rfl, fun _ _ => rfl⟩

/-! ### The low phase of the start pulse -/

/-- Before micro-steps 11 and 12 the start pulse holds the pin as an output driven low (R141). -/
theorem State.startPulseOk.drivenLow {s : State} {k : Nat} (h : s.startPulseOk k)
    (hk : k = 11 ∨ k = 12) : s.pinCode = s.cfg.fselOutput ∧ s.pinLatch = false := by
  obtain ⟨-, hlow, -, hout, -⟩ := h
  exact ⟨hout (by omega) (by omega), hlow (by omega) (by omega)⟩

/-! ### The reset event -/

/-- Settles O59: of the surface the reset event changes what `cutPull` changes, so a pin in its low phase
keeps the latch bit and the function code that the start pulse gave it. -/
theorem resetLeavesTheSurface : Obligations.ResetLeavesTheSurface := by
  unfold Obligations.ResetLeavesTheSurface
  intro s t rest hm hstep
  obtain rfl : resetEvent (s.withScript rest) = t := by simpa [step_reset hm] using hstep
  obtain ⟨pull, hsurf, hothers⟩ := (s.withScript rest).cutPull_surf
  have hkept : (resetEvent (s.withScript rest)).surf = { s.surf with pull := pull } := hsurf
  rw [hkept]
  refine ⟨rfl, State.cutPull_times _, State.cutPull_reads _, rfl, rfl, rfl, rfl, rfl, rfl, hothers,
    fun hout => ?_, fun k b hpin hseq hk => ?_⟩
  · rw [State.cutPull_of_not_inPullSequence (s := s.withScript rest) hout] at hsurf
    exact (congrArg Surface.pull hsurf).symm
  · have hpulse : s.startPulseOk k := s.pinOk_iff.mp hpin _ k b hseq (.inl rfl)
    obtain ⟨hcode, hlatch⟩ := hpulse.drivenLow hk
    exact ⟨(Surface.code_congr rfl s.pinl).trans hcode, hlatch⟩

end Sys2Proof.Machine
end
